-- ==== Sys2Proof/Word.lean ====
section
/-! DEFINITION. The words of the part: bytes, the numbered objects and their plainest arithmetic.
Frames, bodies and records are sequences of bytes, and multi-byte fields are sent most significant
byte first (chapter 13). Everything the manual counts (ticks, bytes, bits, credits) is a `Nat`. -/

namespace Sys2Proof

/-- One byte of a frame, a body, a record or the frame store. -/
abbrev Byte := BitVec 8

/-- Channels 0 to 31. -/
abbrev ChannelId := Fin 32

/-- Picture slots 0 to 511 of the frame store. -/
abbrev SlotId := Fin 512

/-- Encode engines EE0 to EE5. -/
abbrev EncodeEngineId := Fin 6

/-- Decode engines DE0 and DE1. -/
abbrev DecodeEngineId := Fin 2

/-- Marker channels M0 to M3. -/
abbrev MarkerId := Fin 4

/-- Profiles P0 to P15. -/
abbrev ProfileId := Fin 16

/-- Course windows W0 to W6. -/
abbrev WindowId := Fin 7

/-- The number a sequence of bytes spells, most significant byte first. -/
def beNat (bytes : List Byte) : Nat :=
  bytes.foldl (fun acc b => acc * 256 + b.toNat) 0

/-- The last `n` bytes of a number, most significant byte first. -/
def beBytes : Nat → Nat → List Byte
  | 0, _ => []
  | n + 1, x => beBytes n (x / 256) ++ [BitVec.ofNat 8 x]

/-- The byte at an offset, 0 past the end. -/
def byteAt (bytes : List Byte) (offset : Nat) : Byte :=
  bytes.getD offset 0

/-- The `count` bytes that start at an offset. -/
def field (bytes : List Byte) (offset count : Nat) : List Byte :=
  (bytes.drop offset).take count

end Sys2Proof
end

