-- ==== Sys2Proof/Config.lean ====
section
/-! DEFINITION. What the LT32 fixes once for all: sizes of its queues and stores, its limits and its
power-on settings, each with the rule that gives it; and the free values, which have no body. -/

namespace Sys2Proof.Config

/-- R92: the engine reserve, in slots. -/
def engineReserve : Nat := 8

/-- R74: entries of the job queue. -/
def jobQueueEntries : Nat := 256

/-- R114: entries of the small-unit buffer. -/
def smallBufferEntries : Nat := 128

/-- R151: reports the report queue holds, replies' kept places included. -/
def reportQueueEntries : Nat := 32

/-- R36: entries of a channel's segment table. -/
def segmentTableEntries : Nat := 4

/-- R122: bytes of the egress store. -/
def egressStoreBytes : Nat := 268435456

/-- Section 6.1: bytes of a slot's compressed area. -/
def compressedAreaBytes : Nat := 1048576

/-- R49, R12 and R168: bytes of a segment record and of an END record. -/
def recordBytes : Nat := 64

/-- R71: bytes of a skip unit. -/
def skipUnitBytes : Nat := 16

/-- Section 10.1: the largest payload of a frame, in bytes. -/
def maxPayloadBytes : Nat := 8192

/-- R6: the largest delta time a picture carries, in ticks. -/
def maxDeltaTicks : Nat := 96000

/-- Conventions, Time: ticks in one second. -/
def ticksPerSecond : Nat := 48000

/-- R18 and R146: where 32-bit counters, and the 32-bit times of R11, saturate. -/
def max32 : Nat := 4294967295

/-- R168: where a segment entry's eight-byte byte counts saturate. -/
def max64 : Nat := 18446744073709551615

/-- R98: where the correctable count saturates. -/
def maxCorrectable : Nat := 65535

/-- R99: where the uncorrectable count saturates. -/
def maxUncorrectable : Nat := 255

/-- R129: where the egress credit count saturates. -/
def maxEgressCredits : Nat := 255

/-- R158: the longest idle wait HOLD takes, in milliseconds. -/
def maxIdleWait : Nat := 10000

/-- R119: the leveller's lowest gain, in units of 1/4096. -/
def minGain : Nat := 256

/-- FREE VALUE (notes/assumptions/13): the byte at an offset of the coded unit that an encode engine
wrote, named by a serial number, from the bytes of the source picture and of the reference it read.
The manual gives the unit's size and says that its payload is the engine's output as written (R168),
never what that output is. -/
opaque codedByte : Nat → (Nat → Byte) → Option (Nat → Byte) → Nat → Byte

/-- FREE VALUE (notes/assumptions/29): the byte at an offset of a slot's picture area at power-up. -/
opaque powerUpByte : Nat → Nat → Byte

/-- FREE VALUE (notes/assumptions/29): the byte at an offset of the picture that a decode wrote (R95).
The first argument names the decode. -/
opaque decodedByte : Nat → Nat → Byte

/-- FREE VALUE (notes/assumptions/29): the byte at an offset of the reconstruction that an engine job
wrote (R81). The first argument names the job's completion. -/
opaque reconstructedByte : Nat → Nat → Byte

/-- FREE VALUE (notes/assumptions/29): the byte at an offset of a picture area whose write yielded no
picture: a decode that FAILED after its header passed (R108), or a write that a reset cut short. The
arguments name the write and the slot. -/
opaque unfinishedByte : Nat → Nat → Nat → Byte

/-- FREE VALUE (notes/assumptions/14): the byte at an offset of a damaged egress entry as it is read.
R125 sends the data as read and gives it no value. The first argument names the read. -/
opaque damagedByte : Nat → Nat → Byte

/-- FREE VALUE (notes/assumptions/15): byte 1 to 5 of an empty fault record in a READ FAULT LOG reply,
where R167 gives byte 0 alone. The first argument is 0 for the soft record and 1 for the hard one. -/
opaque emptyRecordByte : Nat → Nat → Byte

/-- FREE VALUE (notes/assumptions/15): the class byte of a reset frame, which R141 has its receiver
ignore and gives no value. -/
opaque resetFrameClass : Byte

end Sys2Proof.Config
end

