-- ==== Sys2Proof/Syntax.lean ====
section
/-! DEFINITION. The commands of the part: one constructor of `Instr` for each row of
spec/opcode_table.json. A directive or media frame arrives as the fields its header carries (R165)
with the payload and the payload check as delivered. An engine's or link's event carries what that
engine or link decides (a read's outcome, a completion report). The part's own steps, such as a
credit grant or a dispatch, carry only what the rules leave to choice: the channel and rendition
where several may act in any order. -/

namespace Sys2Proof

/-- The payload part of a delivered frame: the header's length field, the bytes the serial layer
delivered, and the four check bytes that followed them, as one number (R135, R164). -/
structure Payload where
  length : BitVec 16
  bytes : List Byte
  check : BitVec 32
  deriving DecidableEq, Repr, Inhabited

/-- A directive frame whose header passed its check: its tag and its body (R148, R165). -/
structure DirectiveFrame where
  tag : BitVec 16
  payload : Payload
  deriving DecidableEq, Repr, Inhabited

/-- A media frame whose header passed its check, less its unit kind and position, which its
constructor carries (section 10.1, R165). -/
structure MediaFrame where
  channel : ChannelId
  sequence : BitVec 8
  flags : BitVec 16
  timestamp : BitVec 32
  payload : Payload
  deriving DecidableEq, Repr, Inhabited

/-- A frame as bytes: 16 header bytes, the payload, and the payload check (R164). -/
structure RawFrame where
  header : List Byte
  payload : List Byte
  check : BitVec 32
  deriving DecidableEq, Repr, Inhabited

/-- The positions in which a frame starts a picture (R137). -/
inductive StartPosition where
  | only | first
  deriving DecidableEq, Repr, Inhabited

/-- The positions in which a frame continues a picture (R143). -/
inductive ContinuationPosition where
  | middle | last
  deriving DecidableEq, Repr, Inhabited

/-- Every position a media frame may give (section 10.1). -/
inductive Position where
  | only | first | middle | last
  deriving DecidableEq, Repr, Inhabited

/-- The kinds of unit that travel in one frame (R114). -/
inductive SmallKind where
  | audio | cue
  deriving DecidableEq, Repr, Inhabited

/-- The kinds of unit (section 10.1). -/
inductive UnitKind where
  | picture | audio | cue
  deriving DecidableEq, Repr, Inhabited

/-- How a read of the frame store ends (R97). -/
inductive ReadOutcome where
  | clean | correctable | uncorrectable
  deriving DecidableEq, Repr, Inhabited

/-- The two reads an encode engine makes (R97). -/
inductive EngineRead where
  | source | reference
  deriving DecidableEq, Repr, Inhabited

/-- The completion report of an engine job (R67). -/
structure CompletionReport where
  size : Nat
  key : Bool
  capped : Bool
  sourceDamaged : Bool
  referenceDamaged : Bool
  deriving DecidableEq, Repr, Inhabited

/-- The commands, in the order of spec/opcode_table.json. -/
inductive Instr where
  | setLink (f : DirectiveFrame)
  | queryPart (f : DirectiveFrame)
  | loadProfile (f : DirectiveFrame)
  | readProfile (f : DirectiveFrame)
  | loadWindow (f : DirectiveFrame)
  | readWindow (f : DirectiveFrame)
  | loadMarker (f : DirectiveFrame)
  | readMarker (f : DirectiveFrame)
  | clearMatch (f : DirectiveFrame)
  | openChannel (f : DirectiveFrame)
  | closeChannel (f : DirectiveFrame)
  | abortChannel (f : DirectiveFrame)
  | queryChannel (f : DirectiveFrame)
  | readFaultLog (f : DirectiveFrame)
  | clearFaultLog (f : DirectiveFrame)
  | hold (f : DirectiveFrame)
  | release (f : DirectiveFrame)
  | restart (f : DirectiveFrame)
  | unknownDirective (code : Byte) (f : DirectiveFrame)
  | pictureStartFrame (p : StartPosition) (f : MediaFrame)
  | pictureContinuationFrame (p : ContinuationPosition) (f : MediaFrame)
  | smallUnitFrame (k : SmallKind) (p : Position) (f : MediaFrame)
  | headerCheckFailure (header : List Byte)
  | ingestLinkUp
  | ingestLinkDown (inHand : Nat)
  | pictureCreditGrant
  | smallCreditGrant
  | directiveCreditGrant
  | creditFrameSent
  | reportFrameSent
  | egressCredit (f : RawFrame)
  | egressLinkUp
  | egressLinkDown
  | egressRead (o : ReadOutcome)
  | egressFrameBegin
  | egressFrameSent
  | stallTimerExpiry
  | decodeDispatch
  | decodeCompletion (e : DecodeEngineId) (o : ReadOutcome) (decodable : Bool)
  | takeHeldPicture
  | engineDispatch
  | skipCompletion (ch : ChannelId) (r : Fin 4)
  | encodeCompletion (e : EncodeEngineId) (report : CompletionReport)
  | segmentRecord (ch : ChannelId)
  | finalSegmentClose (ch : ChannelId)
  | drainCompletion (ch : ChannelId)
  | abortCompletion (ch : ChannelId)
  | processCueUnit
  | processAudioUnit
  | idleTimerExpiry
  | powerOnReset
  | encodeEngineRead (e : EncodeEngineId) (r : EngineRead) (o : ReadOutcome)
  | unitKindNoneFrame (p : Position) (f : MediaFrame)
  deriving DecidableEq, Repr

end Sys2Proof
end

