-- ==== Sys2Proof/Machine/Checks.lean ====
section
/-! DEFINITION. The two check computations of R164 and the tests a receiver makes on a frame before
its contents matter: R135's header and framing steps, the payload check, and the egress port's test
of a frame on its return direction. -/

namespace Sys2Proof.Machine

/-- One bit of the CRC-16 with polynomial 1021h (R164). -/
def crc16Bit (c : BitVec 16) : BitVec 16 :=
  if c.msb then (c <<< 1) ^^^ 0x1021#16 else c <<< 1

/-- One byte, most significant bit first. -/
def crc16Byte (c : BitVec 16) (b : Byte) : BitVec 16 :=
  (List.range 8).foldl (fun acc _ => crc16Bit acc) (c ^^^ (b.setWidth 16 <<< (8 : Nat)))

/-- R164: the header check. Initial value FFFFh, neither reflected nor inverted. -/
def crc16 (bytes : List Byte) : BitVec 16 :=
  bytes.foldl crc16Byte 0xFFFF#16

/-- One bit of the CRC-32 with polynomial 04C11DB7h (R164). -/
def crc32Bit (c : BitVec 32) : BitVec 32 :=
  if c.msb then (c <<< 1) ^^^ 0x04C11DB7#32 else c <<< 1

/-- One byte, most significant bit first. -/
def crc32Byte (c : BitVec 32) (b : Byte) : BitVec 32 :=
  (List.range 8).foldl (fun acc _ => crc32Bit acc) (c ^^^ (b.setWidth 32 <<< (24 : Nat)))

/-- R164: the payload check. Initial value FFFFFFFFh, the final value inverted. -/
def crc32 (bytes : List Byte) : BitVec 32 :=
  ~~~ (bytes.foldl crc32Byte 0xFFFFFFFF#32)

/-- The header check a header carries in bytes 14 and 15. -/
def headerCheckOf (header : List Byte) : Nat :=
  beNat (field header 14 2)

/-- The length field of a header, bytes 12 and 13 (chapter 13). -/
def headerLengthOf (header : List Byte) : Nat :=
  beNat (field header 12 2)

/-- R164: the header carries the check that its bytes 0 to 13 give. -/
def headerChecks (header : List Byte) : Bool :=
  header.length == 16 && headerCheckOf header == (crc16 (header.take 14)).toNat

/-- R135 step 2: a length field the port can trust. -/
def lengthInRange (n : Nat) : Bool :=
  decide (1 ≤ n) && decide (n ≤ Config.maxPayloadBytes)

/-- R165: the frame kinds that travel toward the part on the ingest link. -/
def mediaKind : Byte := 0x01
/-- See `mediaKind`. -/
def directiveKind : Byte := 0x02

/-- R135 steps 1 and 2, which R145 handles alike: the header fails its check, or its kind is neither
MEDIA nor DIRECTIVE, or its length field is outside 1 to 8,192. -/
def forwardHeaderFails (header : List Byte) : Bool :=
  !(headerChecks header
    && (byteAt header 0 == mediaKind || byteAt header 0 == directiveKind)
    && lengthInRange (headerLengthOf header))

/-- R135 step 4: the payload passes its check and is of the length the header gives. -/
def payloadPasses (p : Payload) : Bool :=
  p.bytes.length == p.length.toNat && p.check == crc32 p.bytes

/-- The payload delivered with a good check. -/
def payloadOf (bytes : List Byte) : Payload :=
  { length := BitVec.ofNat 16 bytes.length, bytes := bytes, check := crc32 bytes }

/-- R165: the kind of an egress credit frame. -/
def egressCreditKind : Byte := 0x07

/-- R164 and R129: what the egress port takes as a credit frame. Any other frame is discarded, and so
is one with a length field of 4 whose delivered payload is not of 4 bytes (assumption 28, DESIGN
CHOICE). -/
def egressCreditPasses (f : RawFrame) : Bool :=
  headerChecks f.header
    && f.check == crc32 f.payload
    && byteAt f.header 0 == egressCreditKind
    && headerLengthOf f.header == 4
    && f.payload.length == 4

/-- R165: the increment an egress credit frame carries in byte 3. -/
def egressIncrement (f : RawFrame) : Nat :=
  (byteAt f.header 3).toNat

/-- A header with its check placed in bytes 14 and 15 (R164), from its first 14 bytes. -/
def sealHeader (first14 : List Byte) : List Byte :=
  first14 ++ beBytes 2 (crc16 first14).toNat

end Sys2Proof.Machine
end

