-- ==== Sys2Proof/Machine/State.lean ====
section
/-! DEFINITION. Everything the manual gives the part, as plain data, block by block, and the state
after power-on reset (R163). The queue `pending` of waiting commands and the serial number
`freeSerial` are the model's own. -/

namespace Sys2Proof.Machine

/-! ### Profiles, windows, link settings (chapters 2 and 11) -/

/-- The ten fields of one rendition of a profile (section 2.1). -/
structure RenditionSpec where
  width : Nat
  height : Nat
  bitrate : Nat
  window : Nat
  qnom : Nat
  qmin : Nat
  qmax : Nat
  gain : Nat
  keyOffset : Nat
  cap : Nat
  deriving DecidableEq, Repr, Inhabited

/-- A profile record, R21. Every field but `valid` is held as loaded, whatever its value. -/
structure Profile where
  valid : Bool
  count : Nat
  audioEnabled : Nat
  segmentTicks : Nat
  minimumTicks : Nat
  intervalHint : Nat
  renditions : Vector RenditionSpec 4
  initialGain : Nat
  maximumGain : Nat
  high : Nat
  low : Nat
  quietRun : Nat
  deriving DecidableEq, Repr

/-- A course window, R28. W0 uses the last two fields only. -/
structure Window where
  active : Bool
  value : BitVec 24
  mask : BitVec 24
  profile : Option ProfileId
  cls : Fin 4
  deriving DecidableEq, Repr

/-- The link settings, R155. -/
structure LinkSettings where
  pictureLimit : Nat
  smallLimit : Nat
  egressPayload : Nat
  stallTimeout : Nat
  deriving DecidableEq, Repr

/-! ### Markers (chapter 3) -/

/-- The field of a unit that a marker compares, R52. -/
inductive MarkerField where
  | timestamp | flags | code
  deriving DecidableEq, Repr

/-- The cut a marker requests, R54. -/
inductive MarkerAction where
  | none | cutAt | cutNext
  deriving DecidableEq, Repr

/-- A marker record, R51. Bit 0 of `kinds` is picture, bit 1 audio, bit 2 cue (R166). -/
structure Marker where
  enabled : Bool
  kinds : BitVec 3
  channelValue : BitVec 5
  channelMask : BitVec 5
  field : MarkerField
  compareValue : BitVec 32
  compareMask : BitVec 32
  action : MarkerAction
  report : Bool
  chapter : Bool
  deriving DecidableEq, Repr

/-! ### Channels (chapter 1), segments (chapter 3), rate control (chapter 4) -/

/-- The states of a channel, R1. -/
inductive ChannelState where
  | closed | running | draining | aborting
  deriving DecidableEq, Repr

/-- A pending cut, R44 and R54. The not-before time does not wrap. -/
structure CutPending where
  notBefore : Nat
  chapter : Option MarkerId
  deriving DecidableEq, Repr

/-- A chapter recorded with a segment: the marker and the not-before consumed with it, R55. -/
structure Chapter where
  marker : MarkerId
  notBefore : Nat
  deriving DecidableEq, Repr

/-- A segment entry is OPEN, or CLOSING with its duration, R36. -/
inductive SegmentState where
  | opened
  | closing (duration : Nat)
  deriving DecidableEq, Repr

/-- A segment entry, section 3.1. Byte counts: video renditions 0 to 3, then audio. -/
structure SegmentEntry where
  number : Nat
  state : SegmentState
  start : Nat
  pictures : Nat
  outstanding : Nat
  bytes : Vector Nat 5
  chapter : Option Chapter
  deriving DecidableEq, Repr

/-- A rendition context, section 1.1 and R60. `dims` is the last output width and height. -/
structure RenditionContext where
  reference : SlotId
  referenceValid : Bool
  fullness : Nat
  skipPending : Bool
  dims : Option (Nat × Nat)
  lastQI : Option Nat
  inFlight : Bool
  deriving DecidableEq, Repr

/-- The audio leveller, section 8.4. -/
structure Leveller where
  gain : Nat
  quietRun : Nat
  deriving DecidableEq, Repr

/-- A partial picture, section 10.3. -/
structure PartialPicture where
  slot : SlotId
  bytes : Nat
  expected : BitVec 8
  timestamp : Nat
  flags : BitVec 16
  deriving DecidableEq, Repr

/-- The nine counters of a channel, R18, in the order of its table. -/
structure ChannelCounters where
  unitsLost : Nat
  unitsLate : Nat
  picturesConcealed : Nat
  skipPictures : Nat
  overflows : Nat
  underflows : Nat
  cappedPictures : Nat
  clippedSamples : Nat
  segmentsEmitted : Nat
  deriving DecidableEq, Repr

/-- A channel record, section 1.1. -/
structure Channel where
  state : ChannelState
  course : BitVec 24
  profile : ProfileId
  cls : Fin 4
  base : Option Nat
  lastPicture : Option Nat
  lastAudio : Option Nat
  firstGood : Bool
  pictureNumber : Nat
  lastDelta : Nat
  nextCut : Nat
  cutPending : Option CutPending
  segments : List SegmentEntry
  preSegmentAudio : Nat
  contexts : List RenditionContext
  leveller : Leveller
  assembly : Option PartialPicture
  decodeInFlight : Bool
  counters : ChannelCounters
  deriving DecidableEq, Repr

/-! ### Slots and the fault log (chapter 6) -/

/-- The nine slot states, section 6.2. Only a SOURCE slot has a reference count (R96). -/
inductive SlotState where
  | free | reserved | filling | decodeWait | decoding | holding
  | source (count : Nat)
  | reference | recon
  deriving DecidableEq, Repr

/-- What a slot's picture area holds: what the frame store held at power-up; a picture that a decode
engine or an encode engine wrote, at its width and height (R95, R81); or what a write that did not
yield a picture left (R108, R162). The bytes are free values (assumption 29): a serial number names
those of each write. -/
inductive PictureArea where
  | powerUp (slot : SlotId)
  | decoded (serial width height : Nat)
  | reconstructed (serial width height : Nat)
  | unfinished (serial : Nat) (slot : SlotId)
  deriving DecidableEq, Repr

/-- A picture slot: its state, the bytes last written into its compressed area, and its picture area
(section 6.1). -/
structure Slot where
  state : SlotState
  compressed : List Byte
  picture : PictureArea
  deriving DecidableEq, Repr

/-- The slot pool, R89 and R91: the 512 slots, the free list from its head, and the RESERVED slots,
oldest first (R93). The length of `reserved` is the outstanding PICTURE credits (R138). -/
structure SlotPool where
  slots : Vector Slot 512
  free : List SlotId
  reserved : List SlotId
  deriving DecidableEq, Repr

/-- The read sources of R97. -/
inductive ReadSource where
  | decodeRead | encodeSource | encodeReference | egressRead
  deriving DecidableEq, Repr

/-- A fault record, R97. -/
structure FaultRecord where
  source : ReadSource
  channel : ChannelId
  rendition : Option Nat
  slot : Option SlotId
  deriving DecidableEq, Repr

/-- The fault log, R98 and R99. -/
structure FaultLog where
  soft : Option FaultRecord
  hard : Option FaultRecord
  correctable : Nat
  uncorrectable : Nat
  deriving DecidableEq, Repr

/-! ### Decoding (chapter 7) -/

/-- An entry of the decode queue, R105. -/
structure DecodeEntry where
  channel : ChannelId
  slot : SlotId
  time : Nat
  delta : Nat
  flags : BitVec 16
  deriving DecidableEq, Repr

/-- The decoded picture of a good picture: its slot and source dimensions, R109. -/
structure SourcePicture where
  slot : SlotId
  width : Nat
  height : Nat
  deriving DecidableEq, Repr

/-- A picture handed to the segmenter. `source` is absent for a concealed picture, R109. -/
structure DecodedPicture where
  channel : ChannelId
  time : Nat
  delta : Nat
  flags : BitVec 16
  source : Option SourcePicture
  deriving DecidableEq, Repr

/-- A decode engine, R106. -/
inductive DecodeEngine where
  | idle
  | decoding (entry : DecodeEntry) (abandoned : Bool)
  | holding (picture : DecodedPicture)
  deriving DecidableEq, Repr

/-- The decode queue and engines. `held` lists the HOLDING engines in the order in which their
decodes completed (R38). -/
structure DecodeUnit where
  queue : List DecodeEntry
  engines : Vector DecodeEngine 2
  held : List DecodeEngineId
  deriving DecidableEq, Repr

/-! ### Jobs and encode engines (chapter 5) -/

/-- The dispatch record of a RUNNING job, section 5.1. The reservation equals the cap. -/
structure DispatchRecord where
  engine : EncodeEngineId
  qi : Nat
  cap : Nat
  recon : SlotId
  width : Nat
  height : Nat
  key : Bool
  deriving DecidableEq, Repr

/-- A job is QUEUED, or RUNNING with its dispatch record and its abandoned mark. -/
inductive JobState where
  | queued
  | running (record : DispatchRecord) (abandoned : Bool)
  deriving DecidableEq, Repr

/-- A job, section 5.1. -/
structure Job where
  channel : ChannelId
  rendition : Nat
  picture : Nat
  segment : Nat
  source : Option SourcePicture
  time : Nat
  delta : Nat
  keyRequired : Bool
  skip : Bool
  cls : Fin 4
  state : JobState
  deriving DecidableEq, Repr

/-- An encode engine is idle, or busy with the outcomes of the reads its job has ended so far
(R81, R97). Its job is the one whose dispatch record names it. -/
inductive EncodeEngine where
  | idle
  | busy (sourceRead referenceRead : Option ReadOutcome)
  deriving DecidableEq, Repr

/-! ### The small-unit buffer (chapter 8) -/

/-- An entry of the small-unit buffer, R114. -/
structure SmallUnit where
  channel : ChannelId
  kind : SmallKind
  timestamp : Nat
  flags : BitVec 16
  payload : List Byte
  deriving DecidableEq, Repr

/-! ### Egress (chapter 9) -/

/-- What a coded, skip or audio unit carries, R124. -/
structure UnitTag where
  channel : ChannelId
  rendition : Nat
  segment : Nat
  time : Nat
  key : Bool
  deriving DecidableEq, Repr

/-- A segment record, R49. -/
structure SegmentRecord where
  channel : ChannelId
  number : Nat
  start : Nat
  duration : Nat
  pictures : Nat
  bytes : Vector Nat 5
  chapter : Option Chapter
  deriving DecidableEq, Repr

/-- How a channel ended, R12 and R15. -/
inductive ChannelOutcome where
  | completed | aborted
  deriving DecidableEq, Repr

/-- An END record, R12 and R15. -/
structure EndRecord where
  channel : ChannelId
  outcome : ChannelOutcome
  segments : Nat
  pictures : Nat
  course : BitVec 24
  profile : ProfileId
  deriving DecidableEq, Repr

/-- The bytes of a coded unit: the engine's own output (a free value named by a serial number) from
the source picture and, unless the unit is a key picture, the reference picture it read (R81); or the
skip picture a source-damaged job yields (R67). -/
inductive CodedContent where
  | engine (serial : Nat) (source : PictureArea) (reference : Option PictureArea)
  | skipPicture
  deriving DecidableEq, Repr

/-- An entry of the egress queue, R124. -/
inductive EgressEntry where
  | coded (tag : UnitTag) (size : Nat) (content : CodedContent)
  | skip (tag : UnitTag)
  | audio (tag : UnitTag) (samples : List (BitVec 16))
  | segment (record : SegmentRecord)
  | ended (record : EndRecord)
  deriving DecidableEq, Repr

/-- The head entry of the egress queue: its read has not ended; or it was rewound by the loss of the
link and is to be read again (R132); or its read has ended, intact or damaged (then with the serial
number of the free bytes read), it has had a frame begun, before a rewind or since, or none, and it is
cut at a payload size once its first frame has begun, with this many frames sent (R125, R126). -/
inductive HeadState where
  | unread
  | rewound
  | read (damage : Option Nat) (begun : Bool) (cut : Option Nat) (sent : Nat)
  deriving DecidableEq, Repr

/-- What is on the egress link: nothing, a frame of the head entry, or a frame that was begun before
a RESTART emptied the queue (R133). -/
inductive EgressWire where
  | idle | frame | detached
  deriving DecidableEq, Repr

/-- The state of a link, R132 and R147. -/
inductive LinkState where
  | down | up
  deriving DecidableEq, Repr

/-- The egress store and port, R122 to R130. A running stall timer holds the timeout in force at its
start. -/
structure EgressPort where
  reservedBytes : Nat
  queuedBytes : Nat
  queue : List EgressEntry
  head : HeadState
  wire : EgressWire
  credits : Nat
  stalled : Bool
  stallTimer : Option Nat
  link : LinkState
  deriving DecidableEq, Repr

/-! ### The ingest port (chapter 10) -/

/-- The credit classes, R137. -/
inductive CreditClass where
  | picture | small | directive
  deriving DecidableEq, Repr

/-- A CREDIT frame, R141. -/
inductive CreditFrame where
  | grant (cls : CreditClass) (increment : Nat)
  | reset
  deriving DecidableEq, Repr

/-- What is on the ingest return direction: nothing, the CREDIT frame at the head of its queue, the
REPORT frame of the report queue's head, or a REPORT frame whose report a RESTART has taken out of
the queue (R141, R145, R162). -/
inductive ReturnWire where
  | idle | credit | report | detached
  deriving DecidableEq, Repr

/-- The four part-wide frame counters, R146. -/
structure FrameCounters where
  stray : Nat
  uncredited : Nat
  payloadFailures : Nat
  headerFailures : Nat
  deriving DecidableEq, Repr

/-- The ingest port, R135 to R147. The outstanding PICTURE credits are the RESERVED slots of the
slot pool. The held DIRECTIVE credits (R140) are those unspent and those spent by a directive that
has been received and has no reply yet, `inHand`. -/
structure IngestPort where
  link : LinkState
  smallOutstanding : Nat
  directiveUnspent : Nat
  inHand : Nat
  creditQueue : List CreditFrame
  wire : ReturnWire
  counters : FrameCounters
  deriving DecidableEq, Repr

/-! ### Reports (chapter 11) -/

/-- The result codes, R150. -/
inductive Result where
  | done | unknown | badField (number : Nat) | state | notOpen | inUse | noProfile | noSlots
  deriving DecidableEq, Repr

/-- Why a hold was rejected, R153. -/
inductive RejectReason where
  | channelClosing | timeout | released
  deriving DecidableEq, Repr

/-- How a hold was decided, R159. -/
inductive HoldDecision where
  | accepted
  | rejected (reason : RejectReason)
  deriving DecidableEq, Repr

/-- The events, R153. -/
inductive Event where
  | channelClosed (ch : ChannelId) (outcome : ChannelOutcome) (segments pictures : Nat)
  | mark (m : MarkerId) (ch : ChannelId) (kind : UnitKind) (time : Nat)
  | holdResult (decision : HoldDecision)
  | egressStall (queuedBytes : Nat) (link : LinkState)
  | memoryFault (record : FaultRecord)
  deriving DecidableEq, Repr

/-- The part states, R157. -/
inductive PartState where
  | running | holdPending | held
  deriving DecidableEq, Repr

/-- The values QUERY PART returns, R154. -/
structure PartStatus where
  part : PartState
  ingestLink : LinkState
  egressLink : LinkState
  stalled : Bool
  matchFlags : Vector Bool 4
  busyDecode : Nat
  busyEncode : Nat
  settings : LinkSettings
  freeCount : Nat
  reservedCount : Nat
  decodeDepth : Nat
  jobDepth : Nat
  reservedBytes : Nat
  queuedBytes : Nat
  counters : FrameCounters
  deriving DecidableEq, Repr

/-- The values QUERY CHANNEL returns, R17. `renditions` holds renditions 0 to 3, with F and the last
QI of those whose context is present. -/
structure ChannelStatus where
  state : ChannelState
  cls : Fin 4
  depth : Nat
  counters : ChannelCounters
  renditions : List (Option (Nat × Option Nat))
  profile : ProfileId
  course : BitVec 24
  deriving DecidableEq, Repr

/-- The data of a reply, R148. -/
inductive ReplyData where
  | none
  | part (status : PartStatus)
  | channel (status : ChannelStatus)
  | profile (index : ProfileId) (record : Profile)
  | window (number : WindowId) (record : Window)
  | marker (index : MarkerId) (record : Marker)
  | faults (log : FaultLog)
  deriving DecidableEq, Repr

/-- The body of a report, R148 and R153. -/
inductive ReportBody where
  | reply (tag : BitVec 16) (code : Byte) (result : Result) (data : ReplyData)
  | event (e : Event)
  deriving DecidableEq, Repr

/-- A report, with the events-lost mark it carries (R151). -/
structure Report where
  eventsLost : Bool
  body : ReportBody
  deriving DecidableEq, Repr

/-- The report queue, and whether an events-lost mark is pending (R152). -/
structure ReportQueue where
  queue : List Report
  lostPending : Bool
  deriving DecidableEq, Repr

/-! ### Hold control (chapter 12) and the whole part -/

/-- Hold control, R157. A running idle timer holds its wait. The EGRESS_EMPTY flag is the one kept
for the pending hold's decision (R158). -/
structure HoldControl where
  part : PartState
  idleTimer : Option Nat
  egressEmpty : Bool
  deriving DecidableEq, Repr

/-- The state of the part. -/
structure State where
  hold : HoldControl
  profiles : Vector Profile 16
  windows : Vector Window 7
  markers : Vector Marker 4
  matchFlags : Vector Bool 4
  settings : LinkSettings
  channels : Vector Channel 32
  pool : SlotPool
  faults : FaultLog
  decode : DecodeUnit
  jobs : List Job
  encode : Vector EncodeEngine 6
  small : List SmallUnit
  egress : EgressPort
  ingest : IngestPort
  reports : ReportQueue
  /-- The model's own: the serial number of the next free value (Config.codedByte, damagedByte,
  decodedByte, reconstructedByte, unfinishedByte). -/
  freeSerial : Nat
  /-- The model's own: the commands that wait, first in, first out. -/
  pending : List Instr
  deriving DecidableEq, Repr

/-- Why a step stops with a fault. -/
inductive Fault where
  /-- Raised by ENGINE_DISPATCH alone, when a job's start finds the free list empty. R79 says that
  the engine reserve excludes it, so no run from reset meets it. Safe: the model stops there. -/
  | noFreeSlot
  deriving DecidableEq, Repr

/-- Why a command has no meaning. -/
inductive Refusal where
  /-- Raised by a refused arm of `exec` for a command not modelled yet. Safe. No arm raises it. -/
  | notModelled (mnemonic : String)
  deriving DecidableEq, Repr

/-! ### The values after power-on reset -/

/-- A rendition's ten fields as 0 (R21). -/
def RenditionSpec.zero : RenditionSpec :=
  { width := 0, height := 0, bitrate := 0, window := 0, qnom := 0, qmin := 0, qmax := 0,
    gain := 0, keyOffset := 0, cap := 0 }

/-- R21: an invalid record of zeros. -/
def Profile.zero : Profile :=
  { valid := false, count := 0, audioEnabled := 0, segmentTicks := 0, minimumTicks := 0,
    intervalHint := 0, renditions := Vector.replicate 4 RenditionSpec.zero, initialGain := 0,
    maximumGain := 0, high := 0, low := 0, quietRun := 0 }

/-- R28: inactive, value 0, mask 0, no profile, class 0. -/
def Window.zero : Window :=
  { active := false, value := 0, mask := 0, profile := none, cls := 0 }

/-- R51: disabled, every other field 0. -/
def Marker.zero : Marker :=
  { enabled := false, kinds := 0, channelValue := 0, channelMask := 0, field := .timestamp,
    compareValue := 0, compareMask := 0, action := .none, report := false, chapter := false }

/-- R155: the power-on link settings. -/
def LinkSettings.powerOn : LinkSettings :=
  { pictureLimit := 8, smallLimit := 32, egressPayload := 4096, stallTimeout := 5000 }

/-- R18: all counters 0. -/
def ChannelCounters.zero : ChannelCounters :=
  { unitsLost := 0, unitsLate := 0, picturesConcealed := 0, skipPictures := 0, overflows := 0,
    underflows := 0, cappedPictures := 0, clippedSamples := 0, segmentsEmitted := 0 }

/-- R19: a channel record after power-on reset and after RESTART. -/
def Channel.cleared : Channel :=
  { state := .closed, course := 0, profile := 0, cls := 0, base := none, lastPicture := none,
    lastAudio := none, firstGood := false, pictureNumber := 0, lastDelta := 0, nextCut := 0,
    cutPending := none, segments := [], preSegmentAudio := 0, contexts := [],
    leveller := { gain := 0, quietRun := 0 }, assembly := none, decodeInFlight := false,
    counters := ChannelCounters.zero }

/-- A picture is being written into the picture area of a slot in this state (section 6.2). -/
def SlotState.isWritten : SlotState → Bool
  | .decoding => true
  | .recon => true
  | .free | .reserved | .filling | .decodeWait | .holding | .source _ | .reference => false

/-- A slot whose engine stops before its write of the picture area has ended, here by a reset
(assumption 29). Any other picture area stays as it is. -/
def Slot.interrupted (x : Slot) (serial : Nat) (i : SlotId) : PictureArea :=
  if x.state.isWritten then .unfinished serial i else x.picture

/-- R89: every slot FREE and the free list in index order. Neither area of a slot is cleared. -/
def SlotPool.cleared (p : SlotPool) (serial : Nat) : SlotPool :=
  { slots := Vector.ofFn (fun i => { p.slots[i] with
      state := .free, picture := p.slots[i].interrupted serial i }),
    free := List.finRange 512, reserved := [] }

/-- R89: the pool at power-up. What the compressed areas hold is not given (assumption 1, DESIGN
CHOICE), nor what the picture areas hold (assumption 29, a free value). -/
def SlotPool.powerUp : SlotPool :=
  { slots := Vector.ofFn (fun i => { state := .free, compressed := [], picture := .powerUp i }),
    free := List.finRange 512, reserved := [] }

/-- R104: the empty fault log. -/
def FaultLog.empty : FaultLog :=
  { soft := none, hard := none, correctable := 0, uncorrectable := 0 }

/-- R113: an empty decode queue and IDLE engines. -/
def DecodeUnit.idle : DecodeUnit :=
  { queue := [], engines := Vector.replicate 2 .idle, held := [] }

/-- R133: the egress port after power-on reset. -/
def EgressPort.powerOn : EgressPort :=
  { reservedBytes := 0, queuedBytes := 0, queue := [], head := .unread, wire := .idle,
    credits := 0, stalled := false, stallTimer := none, link := .down }

/-- R146: the frame counters at 0. -/
def FrameCounters.zero : FrameCounters :=
  { stray := 0, uncredited := 0, payloadFailures := 0, headerFailures := 0 }

/-- R147: the ingest port after power-on reset. -/
def IngestPort.powerOn : IngestPort :=
  { link := .down, smallOutstanding := 0, directiveUnspent := 0, inHand := 0, creditQueue := [],
    wire := .idle, counters := FrameCounters.zero }

/-- R163: the part after power-on reset. -/
def State.reset : State :=
  { hold := { part := .running, idleTimer := none, egressEmpty := false },
    profiles := Vector.replicate 16 Profile.zero,
    windows := Vector.replicate 7 Window.zero,
    markers := Vector.replicate 4 Marker.zero,
    matchFlags := Vector.replicate 4 false,
    settings := LinkSettings.powerOn,
    channels := Vector.replicate 32 Channel.cleared,
    pool := SlotPool.powerUp,
    faults := FaultLog.empty,
    decode := DecodeUnit.idle,
    jobs := [],
    encode := Vector.replicate 6 .idle,
    small := [],
    egress := EgressPort.powerOn,
    ingest := IngestPort.powerOn,
    reports := { queue := [], lostPending := false },
    freeSerial := 0,
    pending := [] }

end Sys2Proof.Machine
end

