-- ==== Sys2Proof/Machine/Flags.lean ====
section
/-! DEFINITION. The counters and flags: every counter saturates and does not wrap (Conventions,
Counters), and every status flag another block reads is computed here, once. -/

namespace Sys2Proof.Machine

/-! ### Counters -/

/-- A counter raised by `n`, saturating at `top`. -/
def raiseCounter (top count n : Nat) : Nat :=
  min top (count + n)

/-- A 32-bit counter raised by 1 (R18, R146). -/
def count32 (count : Nat) : Nat :=
  raiseCounter Config.max32 count 1

/-- R18: units lost +1. -/
def ChannelCounters.lost (c : ChannelCounters) : ChannelCounters :=
  { c with unitsLost := count32 c.unitsLost }

/-- R18: units late +1. -/
def ChannelCounters.late (c : ChannelCounters) : ChannelCounters :=
  { c with unitsLate := count32 c.unitsLate }

/-- R18: pictures concealed +1. -/
def ChannelCounters.concealed (c : ChannelCounters) : ChannelCounters :=
  { c with picturesConcealed := count32 c.picturesConcealed }

/-- R18: skip pictures +1. -/
def ChannelCounters.skipped (c : ChannelCounters) : ChannelCounters :=
  { c with skipPictures := count32 c.skipPictures }

/-- R18: overflows +1. -/
def ChannelCounters.overflowed (c : ChannelCounters) : ChannelCounters :=
  { c with overflows := count32 c.overflows }

/-- R18: underflows +1. -/
def ChannelCounters.underflowed (c : ChannelCounters) : ChannelCounters :=
  { c with underflows := count32 c.underflows }

/-- R18: capped pictures +1. -/
def ChannelCounters.capped (c : ChannelCounters) : ChannelCounters :=
  { c with cappedPictures := count32 c.cappedPictures }

/-- R118: clipped samples +1 for each sample clamped, `n` of them. -/
def ChannelCounters.clipped (c : ChannelCounters) (n : Nat) : ChannelCounters :=
  { c with clippedSamples := raiseCounter Config.max32 c.clippedSamples n }

/-- R49: segments emitted +1. -/
def ChannelCounters.emitted (c : ChannelCounters) : ChannelCounters :=
  { c with segmentsEmitted := count32 c.segmentsEmitted }

/-- R143: stray frames +1. -/
def FrameCounters.countStray (c : FrameCounters) : FrameCounters :=
  { c with stray := count32 c.stray }

/-- R137: uncredited frames +1. -/
def FrameCounters.countUncredited (c : FrameCounters) : FrameCounters :=
  { c with uncredited := count32 c.uncredited }

/-- R144: payload check failures +1. -/
def FrameCounters.countPayload (c : FrameCounters) : FrameCounters :=
  { c with payloadFailures := count32 c.payloadFailures }

/-- R145: header check failures +1. -/
def FrameCounters.countHeader (c : FrameCounters) : FrameCounters :=
  { c with headerFailures := count32 c.headerFailures }

/-! ### Status flags -/

/-- A channel accepts media only while RUNNING (R143). -/
def Channel.isRunning (c : Channel) : Bool :=
  c.state == .running

/-- The blocks treat a DRAINING channel's work as a RUNNING one's (R10). -/
def Channel.isLive (c : Channel) : Bool :=
  c.state == .running || c.state == .draining

/-- R88: an encode engine is busy. -/
def EncodeEngine.isBusy : EncodeEngine → Bool
  | .idle => false
  | .busy _ _ => true

/-- R106: a decode engine is DECODING. -/
def DecodeEngine.isDecoding : DecodeEngine → Bool
  | .decoding _ _ => true
  | .idle => false
  | .holding _ => false

/-- R106: QUERY PART counts a decode engine as busy while it is DECODING or HOLDING. -/
def DecodeEngine.isBusy : DecodeEngine → Bool
  | .idle => false
  | .decoding _ _ => true
  | .holding _ => true

/-- A job is QUEUED. -/
def Job.isQueued (j : Job) : Bool :=
  match j.state with
  | .queued => true
  | .running _ _ => false

/-- A job is RUNNING. -/
def Job.isRunning (j : Job) : Bool :=
  !j.isQueued

/-- R45: a job's picture is good when it has a source slot. -/
def Job.isGood (j : Job) : Bool :=
  j.source.isSome

/-- A segment entry is OPEN. -/
def SegmentEntry.isOpen (e : SegmentEntry) : Bool :=
  e.state == .opened

/-- R127: a frame of the head entry is ready when the entry's read has ended and no frame is on the
link. A rewound entry waits as a ready frame does (assumption 8, DEDUCED). -/
def EgressPort.frameReady (p : EgressPort) : Bool :=
  !p.queue.isEmpty && p.wire == .idle && p.head != .unread

/-- R122: the room of the egress store. -/
def EgressPort.room (p : EgressPort) : Nat :=
  Config.egressStoreBytes - (p.reservedBytes + p.queuedBytes)

/-- R140: directive credits held, unspent or spent and not yet answered. -/
def IngestPort.directiveHeld (p : IngestPort) : Nat :=
  p.directiveUnspent + p.inHand

/-- R151: the report count. -/
def State.reportCount (s : State) : Nat :=
  s.reports.queue.length + s.ingest.directiveHeld

/-- R159: the idle condition of a pending hold. -/
def State.idleReached (s : State) : Bool :=
  s.encode.toList.all (fun e => !e.isBusy)
    && s.decode.engines.toList.all (fun e => !e.isDecoding)
    && (!s.hold.egressEmpty || s.egress.queue.isEmpty)

/-- R130: the conditions under which the stall timer starts. -/
def State.stallWaits (s : State) : Bool :=
  s.egress.frameReady
    && s.egress.credits == 0
    && s.hold.part != .held
    && !s.egress.stalled
    && s.settings.stallTimeout != 0

end Sys2Proof.Machine
end

