-- ==== Sys2Proof/Machine/Ops.lean ====
section
/-! DEFINITION. The operations that several commands share, each one of a block of the part on the
state it owns: channel records, the slot pool, the report queue, the return direction, the egress
store, hold control, the stall timer and the fault log. -/

namespace Sys2Proof.Machine

/-! ### Channel records -/

/-- A channel record. -/
def State.channel (s : State) (ch : ChannelId) : Channel :=
  s.channels[ch]

/-- A channel record rewritten. -/
def State.modChannel (s : State) (ch : ChannelId) (f : Channel → Channel) : State :=
  { s with channels := s.channels.set ch (f s.channels[ch]) }

/-- R26 and R34: the profile a channel reads. -/
def State.profileOf (s : State) (ch : ChannelId) : Profile :=
  s.profiles[s.channels[ch].profile]

/-- The channel's counters rewritten. -/
def State.count (s : State) (ch : ChannelId) (f : ChannelCounters → ChannelCounters) : State :=
  s.modChannel ch (fun c => { c with counters := f c.counters })

/-- A rendition context rewritten. -/
def Channel.modContext (c : Channel) (r : Nat) (f : RenditionContext → RenditionContext) : Channel :=
  { c with contexts := c.contexts.modify r f }

/-! ### The slot pool (R89 to R91) -/

/-- A slot rewritten. -/
def SlotPool.put (p : SlotPool) (i : SlotId) (slot : Slot) : SlotPool :=
  { p with slots := p.slots.set i slot }

/-- A slot's state changed, its contents kept. -/
def SlotPool.mark (p : SlotPool) (i : SlotId) (st : SlotState) : SlotPool :=
  p.put i { p.slots[i] with state := st }

/-- R91: a slot becomes FREE and joins the tail of the free list. -/
def SlotPool.release (p : SlotPool) (i : SlotId) : SlotPool :=
  { p.mark i .free with free := p.free ++ [i] }

/-- Several slots freed, in the order given. -/
def SlotPool.releaseAll (p : SlotPool) (slots : List SlotId) : SlotPool :=
  slots.foldl SlotPool.release p

/-- R91: the slot at the head of the free list leaves it and enters the state given. -/
def SlotPool.take (p : SlotPool) (st : SlotState) : Option (SlotId × SlotPool) :=
  match p.free with
  | [] => none
  | i :: rest => some (i, { p.mark i st with free := rest })

/-- R93: a slot from the head of the free list becomes the youngest RESERVED one. -/
def SlotPool.reserve (p : SlotPool) : SlotPool :=
  match p.take .reserved with
  | none => p
  | some (i, q) => { q with reserved := q.reserved ++ [i] }

/-- `n` slots reserved, one after another. -/
def SlotPool.reserveMany : Nat → SlotPool → SlotPool
  | 0, p => p
  | n + 1, p => SlotPool.reserveMany n p.reserve

/-- R93: every RESERVED slot freed, oldest first. -/
def SlotPool.voidReserved (p : SlotPool) : SlotPool :=
  { p.releaseAll p.reserved with reserved := [] }

/-- R96: a source slot's reference count falls by 1, and the slot is freed at 0. -/
def SlotPool.dropSource (p : SlotPool) (i : SlotId) : SlotPool :=
  match p.slots[i].state with
  | .source n => if n ≤ 1 then p.release i else p.mark i (.source (n - 1))
  | _ => p

/-- Bytes written at the start of a slot's compressed area (R93). -/
def SlotPool.fill (p : SlotPool) (i : SlotId) (bytes : List Byte) : SlotPool :=
  p.put i { p.slots[i] with state := .filling, compressed := bytes }

/-- Bytes appended in a slot's compressed area (R94). -/
def SlotPool.append (p : SlotPool) (i : SlotId) (bytes : List Byte) : SlotPool :=
  p.put i { p.slots[i] with compressed := p.slots[i].compressed ++ bytes }

/-- A slot's picture area written (section 6.1). -/
def SlotPool.draw (p : SlotPool) (i : SlotId) (area : PictureArea) : SlotPool :=
  p.put i { p.slots[i] with picture := area }

/-- A slot freed to the tail. -/
def State.releaseSlot (s : State) (i : SlotId) : State :=
  { s with pool := s.pool.release i }

/-- A slot's state changed. -/
def State.markSlot (s : State) (i : SlotId) (st : SlotState) : State :=
  { s with pool := s.pool.mark i st }

/-! ### The report queue (R151, R152) and replies (R148) -/

/-- A report enters the queue at the tail and carries a pending events-lost mark. -/
def ReportQueue.push (q : ReportQueue) (body : ReportBody) : ReportQueue :=
  { queue := q.queue ++ [{ eventsLost := q.lostPending, body := body }], lostPending := false }

/-- R152: an event is offered to the report queue. It enters when the report count is below 32, and
is dropped otherwise, which makes the events-lost mark pending. -/
def State.raise (s : State) (e : Event) : State :=
  if s.reportCount < Config.reportQueueEntries then
    { s with reports := s.reports.push (.event e) }
  else
    { s with reports := { s.reports with lostPending := true } }

/-- Events raised in order. -/
def State.raiseAll (s : State) (events : List Event) : State :=
  events.foldl State.raise s

/-- R148: a reply enters the report queue and the directive credit its frame spent is released. -/
def State.reply (s : State) (tag : BitVec 16) (code : Byte) (result : Result)
    (data : ReplyData) : State :=
  { s with
    reports := s.reports.push (.reply tag code result data)
    ingest := { s.ingest with inHand := s.ingest.inHand - 1 } }

/-! ### The ingest return direction (R141, R151) -/

/-- An idle return direction of an UP link begins the next frame: a waiting CREDIT frame before a
waiting REPORT frame. Commands other than the three grants begin with this
(assumption 5, DESIGN CHOICE). -/
def State.beginReturn (s : State) : State :=
  if s.ingest.link == .up && s.ingest.wire == .idle then
    if !s.ingest.creditQueue.isEmpty then { s with ingest := { s.ingest with wire := .credit } }
    else if !s.reports.queue.isEmpty then { s with ingest := { s.ingest with wire := .report } }
    else s
  else s

/-! ### The egress store (R122 to R124) -/

/-- R124: the size of an entry in bytes. -/
def EgressEntry.size : EgressEntry → Nat
  | .coded _ n _ => n
  | .skip _ => Config.skipUnitBytes
  | .audio _ samples => 2 * samples.length
  | .segment _ => Config.recordBytes
  | .ended _ => Config.recordBytes

/-- The channel of an entry (R125). -/
def EgressEntry.channel : EgressEntry → ChannelId
  | .coded tag _ _ => tag.channel
  | .skip tag => tag.channel
  | .audio tag _ => tag.channel
  | .segment r => r.channel
  | .ended r => r.channel

/-- The rendition of a unit; a record has none (R125). -/
def EgressEntry.rendition : EgressEntry → Option Nat
  | .coded tag _ _ => some tag.rendition
  | .skip tag => some tag.rendition
  | .audio tag _ => some tag.rendition
  | .segment _ => none
  | .ended _ => none

/-- R123: an entry joins the tail of the egress queue and its size the queued bytes. -/
def State.enqueue (s : State) (e : EgressEntry) : State :=
  { s with egress := { s.egress with
      queue := s.egress.queue ++ [e]
      queuedBytes := s.egress.queuedBytes + e.size } }

/-- R123: a reservation is released. -/
def State.releaseReservation (s : State) (cap : Nat) : State :=
  { s with egress := { s.egress with reservedBytes := s.egress.reservedBytes - cap } }

/-- R126: the number of frames of an entry of `n` bytes at payload size `p`. -/
def frameCount (n p : Nat) : Nat :=
  (n + p - 1) / p

/-! ### The stall timer (R130) and hold decisions (R159) -/

/-- R130: the stall timer starts, with the timeout in force, when it is stopped and all its
conditions hold. -/
def State.startStall (s : State) : State :=
  if s.egress.stallTimer.isNone && s.stallWaits then
    { s with egress := { s.egress with stallTimer := some s.settings.stallTimeout } }
  else s

/-- R159 and R130: the part enters HELD. The idle timer and the stall timer stop. -/
def State.enterHeld (s : State) : State :=
  { s with
    hold := { s.hold with part := .held, idleTimer := none }
    egress := { s.egress with stallTimer := none } }

/-- R157: the part returns to RUNNING, the idle timer stopped; the stall timer may start. -/
def State.resume (s : State) : State :=
  State.startStall { s with hold := { s.hold with part := .running, idleTimer := none } }

/-- R159: while HOLD_PENDING, reaching idle decides the hold. The event is the caller's to raise. -/
def State.decideHold (s : State) : State × List Event :=
  if s.hold.part == .holdPending && s.idleReached then
    (s.enterHeld, [.holdResult .accepted])
  else (s, [])

/-- The hold decided, and its HOLD RESULT raised. -/
def State.settleHold (s : State) : State :=
  s.decideHold.1.raiseAll s.decideHold.2

/-! ### The fault log (R97 to R101) -/

/-- R98: a correctable read is logged. -/
def FaultLog.logCorrectable (l : FaultLog) (r : FaultRecord) : FaultLog :=
  { l with
    correctable := raiseCounter Config.maxCorrectable l.correctable 1
    soft := if l.hard.isNone then some r else l.soft }

/-- R99: an uncorrectable read is logged. -/
def FaultLog.logUncorrectable (l : FaultLog) (r : FaultRecord) : FaultLog :=
  { l with
    uncorrectable := raiseCounter Config.maxUncorrectable l.uncorrectable 1
    hard := if l.hard.isNone then some r else l.hard }

/-- R97 to R101: a read is reported to the fault log as it ends. Filling the hard record raises
MEMORY FAULT. -/
def State.reportRead (s : State) (o : ReadOutcome) (r : FaultRecord) : State :=
  match o with
  | .clean => s
  | .correctable => { s with faults := s.faults.logCorrectable r }
  | .uncorrectable =>
    let t : State := { s with faults := s.faults.logUncorrectable r }
    if s.faults.hard.isNone then t.raise (.memoryFault r) else t

end Sys2Proof.Machine
end

