-- ==== Sys2Proof/Machine/Formats.lean ====
section
/-! DEFINITION. What leaves the part, byte by byte (chapter 13): the bodies of replies and events
(R166, R167), CREDIT and REPORT frames (R165), records and unit payloads (R168), and the frames an
egress entry is cut into (R126). `State.returnFrame` and `State.egressFrame` are the frames now being
sent on the two links. -/

namespace Sys2Proof.Machine

/-! ### Fields -/

/-- Reserved bytes, sent as 0 (R164). -/
def zeros (n : Nat) : List Byte :=
  List.replicate n 0

/-- One byte. -/
def byteOf (n : Nat) : Byte :=
  BitVec.ofNat 8 n

/-- One bit as a number. -/
def bit (b : Bool) : Nat :=
  if b then 1 else 0

/-- R167: an absent value of a one-byte field is FFh. -/
def optByte (v : Option Nat) : Byte :=
  byteOf (v.getD 0xFF)

/-- R164 and R165: a frame from its first 12 header bytes and its payload. -/
def frameOf (first12 payload : List Byte) : RawFrame :=
  { header := sealHeader (first12 ++ beBytes 2 payload.length)
    payload := payload
    check := crc32 payload }

/-! ### Codes (R165, R167) -/

/-- R165: the result codes. -/
def Result.code : Result → Nat
  | .done => 0
  | .unknown => 1
  | .badField _ => 2
  | .state => 3
  | .notOpen => 4
  | .inUse => 5
  | .noProfile => 6
  | .noSlots => 7

/-- R165: byte 6 of a reply. -/
def Result.fieldNumber : Result → Nat
  | .badField n => n
  | _ => 0

/-- R165: the event kinds. -/
def Event.kindCode : Event → Nat
  | .channelClosed _ _ _ _ => 1
  | .mark _ _ _ _ => 2
  | .holdResult _ => 3
  | .egressStall _ _ => 4
  | .memoryFault _ => 5

/-- R167: a link state as one bit. -/
def LinkState.code : LinkState → Nat
  | .down => 0
  | .up => 1

/-- R167: the part states. -/
def PartState.code : PartState → Nat
  | .running => 0
  | .holdPending => 1
  | .held => 2

/-- R167: the channel states. -/
def ChannelState.code : ChannelState → Nat
  | .closed => 0
  | .running => 1
  | .draining => 2
  | .aborting => 3

/-- R167 and R168: how a channel ended. -/
def ChannelOutcome.code : ChannelOutcome → Nat
  | .completed => 0
  | .aborted => 1

/-- R167: a unit kind, coded as in the media header. -/
def unitKindCode : UnitKind → Nat
  | .picture => 0
  | .audio => 1
  | .cue => 2

/-- R165: a position. -/
def positionCode : Position → Nat
  | .only => 0
  | .first => 1
  | .middle => 2
  | .last => 3

/-- R165: a credit class. -/
def CreditClass.code : CreditClass → Nat
  | .picture => 0
  | .small => 1
  | .directive => 2

/-- R167: a read source. -/
def ReadSource.code : ReadSource → Nat
  | .decodeRead => 0
  | .encodeSource => 1
  | .encodeReference => 2
  | .egressRead => 3

/-- R166: what a marker compares. -/
def MarkerField.fieldCode : MarkerField → Nat
  | .timestamp => 0
  | .flags => 1
  | .code => 2

/-- R166: the cut a marker requests. -/
def MarkerAction.code : MarkerAction → Nat
  | .none => 0
  | .cutAt => 1
  | .cutNext => 2

/-! ### Tables as READ PROFILE, READ WINDOW and READ MARKER show them (R166, R167) -/

/-- R166: a rendition's block of 16 bytes. -/
def RenditionSpec.bytes (r : RenditionSpec) : List Byte :=
  beBytes 2 r.width ++ beBytes 2 r.height ++ beBytes 4 r.bitrate
    ++ [byteOf r.window, byteOf r.qnom, byteOf r.qmin, byteOf r.qmax, byteOf r.gain,
        byteOf r.keyOffset]
    ++ beBytes 2 r.cap

/-- R166: the profile layout, byte 0 holding the index. -/
def Profile.bytes (p : Profile) (index : ProfileId) : List Byte :=
  [byteOf index.val, byteOf (bit p.valid), byteOf p.count, byteOf p.audioEnabled]
    ++ beBytes 4 p.segmentTicks ++ beBytes 4 p.minimumTicks ++ beBytes 4 p.intervalHint
    ++ p.renditions.toList.flatMap RenditionSpec.bytes
    ++ beBytes 2 p.initialGain ++ beBytes 2 p.maximumGain ++ beBytes 2 p.high ++ beBytes 2 p.low
    ++ [byteOf p.quietRun] ++ zeros 3

/-- R166: the LOAD WINDOW layout. -/
def Window.bytes (w : Window) (number : WindowId) : List Byte :=
  [byteOf number.val, byteOf (bit w.active), optByte (w.profile.map (fun p => p.val)),
   byteOf w.cls.val]
    ++ beBytes 3 w.value.toNat ++ beBytes 3 w.mask.toNat ++ zeros 2

/-- R166: the LOAD MARKER layout. -/
def Marker.bytes (m : Marker) (index : MarkerId) : List Byte :=
  [byteOf index.val, byteOf (bit m.enabled), byteOf m.kinds.toNat, byteOf m.channelValue.toNat,
   byteOf m.channelMask.toNat, byteOf m.field.fieldCode, byteOf m.action.code, byteOf (bit m.report),
   byteOf (bit m.chapter)]
    ++ zeros 3 ++ beBytes 4 m.compareValue.toNat ++ beBytes 4 m.compareMask.toNat

/-! ### The fault log, the part and a channel as their queries show them (R167) -/

/-- R167: a fault record. -/
def FaultRecord.bytes (r : FaultRecord) : List Byte :=
  [1, byteOf r.source.code, byteOf r.channel.val, optByte r.rendition]
    ++ beBytes 2 ((r.slot.map (fun i => i.val)).getD 0xFFFF)

/-- R167: a record of the fault log. Of an empty one only byte 0 is given (assumption 15, a free
value). -/
def recordBytes (which : Nat) (r : Option FaultRecord) : List Byte :=
  match r with
  | some x => x.bytes
  | none => 0 :: (List.range 5).map (fun i => Config.emptyRecordByte which (i + 1))

/-- R167: the READ FAULT LOG body. -/
def FaultLog.bytes (l : FaultLog) : List Byte :=
  recordBytes 0 l.soft ++ recordBytes 1 l.hard ++ beBytes 2 l.correctable
    ++ [byteOf l.uncorrectable] ++ zeros 1

/-- R167: byte 2 of the QUERY PART body. -/
def PartStatus.flagByte (p : PartStatus) : Nat :=
  bit p.stalled + 16 * bit p.matchFlags[0] + 32 * bit p.matchFlags[1] + 64 * bit p.matchFlags[2]
    + 128 * bit p.matchFlags[3]

/-- R167: the QUERY PART body. -/
def PartStatus.bytes (p : PartStatus) : List Byte :=
  [byteOf p.part.code, byteOf (p.ingestLink.code + 2 * p.egressLink.code), byteOf p.flagByte,
   byteOf p.busyDecode, byteOf p.busyEncode, byteOf p.settings.pictureLimit,
   byteOf p.settings.smallLimit, 0]
    ++ beBytes 2 p.freeCount ++ beBytes 2 p.reservedCount ++ beBytes 2 p.decodeDepth
    ++ beBytes 2 p.jobDepth ++ beBytes 4 p.reservedBytes ++ beBytes 4 p.queuedBytes
    ++ beBytes 2 p.settings.egressPayload ++ beBytes 2 p.settings.stallTimeout
    ++ beBytes 4 p.counters.stray ++ beBytes 4 p.counters.uncredited
    ++ beBytes 4 p.counters.payloadFailures ++ beBytes 4 p.counters.headerFailures

/-- R18 and R167: the nine counters, in the order of their table. -/
def ChannelCounters.bytes (c : ChannelCounters) : List Byte :=
  beBytes 4 c.unitsLost ++ beBytes 4 c.unitsLate ++ beBytes 4 c.picturesConcealed
    ++ beBytes 4 c.skipPictures ++ beBytes 4 c.overflows ++ beBytes 4 c.underflows
    ++ beBytes 4 c.cappedPictures ++ beBytes 4 c.clippedSamples ++ beBytes 4 c.segmentsEmitted

/-- R167: the six bytes of a rendition in the QUERY CHANNEL body. -/
def renditionBytes : Option (Nat × Option Nat) → List Byte
  | some (fullness, lastQI) => beBytes 4 fullness ++ [optByte lastQI, 1]
  | none => beBytes 4 0 ++ [0xFF, 0]

/-- R167: the QUERY CHANNEL body. -/
def ChannelStatus.bytes (c : ChannelStatus) : List Byte :=
  [byteOf c.state.code, byteOf c.cls.val, byteOf c.depth, 0] ++ c.counters.bytes
    ++ c.renditions.flatMap renditionBytes ++ [byteOf c.profile.val] ++ beBytes 3 c.course.toNat

/-! ### Reports (R165, R167) -/

/-- R167: the body of a reply. -/
def ReplyData.bytes : ReplyData → List Byte
  | .none => zeros 4
  | .part p => p.bytes
  | .channel c => c.bytes
  | .profile i p => p.bytes i
  | .window n w => w.bytes n
  | .marker i m => m.bytes i
  | .faults l => l.bytes

/-- R167: the outcome and the reason of a HOLD RESULT. -/
def HoldDecision.bytes : HoldDecision → List Byte
  | .accepted => [0, 0]
  | .rejected .channelClosing => [1, 1]
  | .rejected .timeout => [1, 2]
  | .rejected .released => [1, 3]

/-- R167: the body of an event. -/
def Event.bytes : Event → List Byte
  | .channelClosed ch outcome segments pictures =>
    [byteOf ch.val, byteOf outcome.code] ++ zeros 2 ++ beBytes 4 segments ++ beBytes 4 pictures
  | .mark m ch kind time =>
    [byteOf m.val, byteOf ch.val, byteOf (unitKindCode kind), 0] ++ beBytes 4 time
  | .holdResult d => d.bytes ++ zeros 2
  | .egressStall queued link => beBytes 4 queued ++ [byteOf link.code] ++ zeros 3
  | .memoryFault r => r.bytes ++ zeros 2

/-- R165: the REPORT frame of a report. -/
def Report.frame (r : Report) : RawFrame :=
  match r.body with
  | .reply tag code result data =>
    frameOf ([0x04, byteOf (bit r.eventsLost)] ++ beBytes 2 tag.toNat
      ++ [code, byteOf result.code, byteOf result.fieldNumber, 0] ++ zeros 4) data.bytes
  | .event e =>
    frameOf ([0x04, byteOf (bit r.eventsLost + 2), 0, 0, byteOf e.kindCode, 0, 0, 0] ++ zeros 4)
      e.bytes

/-- R141 and R165: a CREDIT frame. -/
def CreditFrame.frame : CreditFrame → RawFrame
  | .grant cls n => frameOf ([0x03, byteOf cls.code, 0, byteOf n] ++ zeros 8) (zeros 4)
  | .reset => frameOf ([0x03, Config.resetFrameClass, 1, 0] ++ zeros 8) (zeros 4)

/-- R141 and R151: the frame that the ingest return direction carries. A report that a RESTART has
taken out of the queue is no longer held. -/
def State.returnFrame (s : State) : Option RawFrame :=
  match s.ingest.wire with
  | .credit => s.ingest.creditQueue.head?.map CreditFrame.frame
  | .report => s.reports.queue.head?.map Report.frame
  | .idle => none
  | .detached => none

/-! ### Records and units (R168) -/

/-- R168: a segment record's 64 bytes. -/
def SegmentRecord.layout (r : SegmentRecord) : List Byte :=
  [1, byteOf r.channel.val, byteOf (bit r.chapter.isSome),
   byteOf ((r.chapter.map (fun c => c.marker.val)).getD 0)]
    ++ beBytes 4 r.number ++ beBytes 4 r.start ++ beBytes 4 r.duration ++ beBytes 4 r.pictures
    ++ r.bytes.toList.flatMap (beBytes 8)
    ++ beBytes 4 ((r.chapter.map (fun c => c.notBefore)).getD 0)

/-- R168: an END record's 64 bytes. -/
def EndRecord.layout (r : EndRecord) : List Byte :=
  [2, byteOf r.channel.val, byteOf r.outcome.code, byteOf r.profile.val]
    ++ beBytes 4 r.segments ++ beBytes 4 r.pictures ++ beBytes 3 r.course.toNat ++ zeros 49

/-- R168: the 16 bytes of a skip unit. -/
def skipUnit : List Byte :=
  1 :: zeros 15

/-- The byte at an offset of a picture area (assumption 29, free values). -/
def PictureArea.byte : PictureArea → Nat → Byte
  | .powerUp slot, offset => Config.powerUpByte slot.val offset
  | .decoded serial _ _, offset => Config.decodedByte serial offset
  | .reconstructed serial _ _, offset => Config.reconstructedByte serial offset
  | .unfinished serial slot, offset => Config.unfinishedByte serial slot.val offset

/-- R168: an entry as it was written into the egress area. -/
def EgressEntry.written : EgressEntry → List Byte
  | .coded _ n (.engine serial source reference) =>
    (List.range n).map (Config.codedByte serial source.byte (reference.map PictureArea.byte))
  | .coded _ n .skipPicture => skipUnit.take n
  | .skip _ => skipUnit
  | .audio _ samples => samples.flatMap (fun x => beBytes 2 x.toNat)
  | .segment r => r.layout
  | .ended r => r.layout

/-- R125: the data of an entry as read. A damaged entry's is free (assumption 14, a free value). -/
def EgressEntry.asRead (e : EgressEntry) (damage : Option Nat) : List Byte :=
  match damage with
  | none => e.written
  | some serial => (List.range e.size).map (Config.damagedByte serial)

/-- R126: the position of frame `n`, from 0, of `count` frames. -/
def framePosition (count n : Nat) : Position :=
  if count ≤ 1 then .only
  else if n = 0 then .first
  else if n + 1 = count then .last
  else .middle

/-- R126: the payload of frame `n` of data cut at `p` bytes. -/
def frameSlice (data : List Byte) (p n : Nat) : List Byte :=
  (data.drop (p * n)).take p

/-- R165: byte 3 of a CODED or RECORD frame. -/
def markByte (key damaged : Bool) : Byte :=
  byteOf (bit key + 2 * bit damaged)

/-- R126 and R165: the first 12 header bytes of a unit's frame. -/
def UnitTag.header (t : UnitTag) (damaged : Bool) (pos : Position) : List Byte :=
  [0x05, byteOf t.channel.val, byteOf (t.rendition + 16 * positionCode pos),
   markByte t.key damaged] ++ beBytes 4 t.segment ++ beBytes 4 t.time

/-- R126 and R165: the first 12 header bytes of a record's frame. -/
def recordHeader (ch : ChannelId) (number start : Nat) (damaged : Bool) (pos : Position) :
    List Byte :=
  [0x06, byteOf ch.val, byteOf (16 * positionCode pos), markByte false damaged]
    ++ beBytes 4 number ++ beBytes 4 start

/-- R126: the first 12 header bytes of an entry's frame. -/
def EgressEntry.header (e : EgressEntry) (damaged : Bool) (pos : Position) : List Byte :=
  match e with
  | .coded tag _ _ => tag.header damaged pos
  | .skip tag => { tag with key := false }.header damaged pos
  | .audio tag _ => tag.header damaged pos
  | .segment r => recordHeader r.channel r.number r.start damaged pos
  | .ended r => recordHeader r.channel 0 0 damaged pos

/-- R126: frame `n` of an entry cut at payload size `p`. -/
def EgressEntry.frame (e : EgressEntry) (damage : Option Nat) (p n : Nat) : RawFrame :=
  frameOf (e.header damage.isSome (framePosition (frameCount e.size p) n))
    (frameSlice (e.asRead damage) p n)

/-- R127: the frame of a queued entry that the egress link carries. -/
def State.egressFrame (s : State) : Option RawFrame :=
  match s.egress.wire, s.egress.queue, s.egress.head with
  | .frame, e :: _, .read damage _ (some p) n => some (e.frame damage p n)
  | _, _, _ => none

end Sys2Proof.Machine
end

