-- ==== Sys2Proof/Machine/Operands.lean ====
section
/-! DEFINITION. The operands of the directives: the fields of each body (R166) and the field checks
in the order each owning rule gives. A check that fails names its field number. -/

namespace Sys2Proof.Machine

/-- The number a body's bytes spell at an offset. -/
def bodyNat (body : List Byte) (offset count : Nat) : Nat :=
  beNat (field body offset count)

/-- The number of the first check that fails. -/
def firstBad (checks : List (Nat × Bool)) : Option Nat :=
  (checks.find? (fun c => !c.2)).map (fun c => c.1)

/-- A value in a range, both ends included. -/
def inRange (lo hi x : Nat) : Bool :=
  decide (lo ≤ x) && decide (x ≤ hi)

/-- A field that holds 0 or 1. -/
def isFlag (x : Nat) : Bool :=
  decide (x ≤ 1)

/-! ### SET LINK -/

/-- R166: the body of SET LINK. -/
def readLinkSettings (body : List Byte) : LinkSettings :=
  { pictureLimit := bodyNat body 0 1, smallLimit := bodyNat body 1 1,
    egressPayload := bodyNat body 2 2, stallTimeout := bodyNat body 4 2 }

/-- R155: the first bad field of SET LINK. -/
def LinkSettings.firstBad (l : LinkSettings) : Option Nat :=
  Machine.firstBad
    [(1, inRange 1 16 l.pictureLimit),
     (2, inRange 1 64 l.smallLimit),
     (3, inRange 1024 8192 l.egressPayload && l.egressPayload % 512 == 0),
     (4, inRange 0 60000 l.stallTimeout)]

/-! ### Profiles -/

/-- R166: rendition r's block of the profile layout. -/
def readRendition (body : List Byte) (r : Nat) : RenditionSpec :=
  let o := 16 + 16 * r
  { width := bodyNat body o 2, height := bodyNat body (o + 2) 2, bitrate := bodyNat body (o + 4) 4,
    window := bodyNat body (o + 8) 1, qnom := bodyNat body (o + 9) 1,
    qmin := bodyNat body (o + 10) 1, qmax := bodyNat body (o + 11) 1,
    gain := bodyNat body (o + 12) 1, keyOffset := bodyNat body (o + 13) 1,
    cap := bodyNat body (o + 14) 2 }

/-- R166: the profile layout. The record is valid when the valid field is 1. -/
def readProfileRecord (body : List Byte) : Profile :=
  { valid := bodyNat body 1 1 == 1, count := bodyNat body 2 1, audioEnabled := bodyNat body 3 1,
    segmentTicks := bodyNat body 4 4, minimumTicks := bodyNat body 8 4,
    intervalHint := bodyNat body 12 4,
    renditions := #v[readRendition body 0, readRendition body 1, readRendition body 2,
      readRendition body 3],
    initialGain := bodyNat body 80 2, maximumGain := bodyNat body 82 2, high := bodyNat body 84 2,
    low := bodyNat body 86 2, quietRun := bodyNat body 88 1 }

/-- R23: the checks of a rendition's ten fields, from field number 7 + 10r. -/
def RenditionSpec.checks (x : RenditionSpec) (r : Nat) : List (Nat × Bool) :=
  let n := 7 + 10 * r
  [(n, inRange 160 1920 x.width && x.width % 16 == 0),
   (n + 1, inRange 96 1080 x.height && x.height % 8 == 0),
   (n + 2, inRange 64000 20000000 x.bitrate),
   (n + 3, inRange 1 8 x.window),
   (n + 4, inRange 0 63 x.qnom),
   (n + 5, inRange 0 x.qnom x.qmin),
   (n + 6, inRange x.qnom 63 x.qmax),
   (n + 7, inRange 0 15 x.gain),
   (n + 8, inRange 0 15 x.keyOffset),
   (n + 9, inRange 16 1024 x.cap)]

/-- R23: the field checks from field 2, with the renditions below V only. -/
def Profile.checks (p : Profile) : List (Nat × Bool) :=
  [(2, inRange 1 4 p.count), (3, isFlag p.audioEnabled),
   (4, inRange 48000 480000 p.segmentTicks), (5, inRange 24000 p.segmentTicks p.minimumTicks),
   (6, inRange 400 48000 p.intervalHint)]
  ++ ((p.renditions.toList.take p.count).zipIdx.flatMap (fun x => x.1.checks x.2))
  ++ [(47, inRange 256 16384 p.initialGain), (48, inRange p.initialGain 16384 p.maximumGain),
      (49, inRange 1 32767 p.high), (50, decide (p.low < p.high)), (51, inRange 1 255 p.quietRun)]

/-- R23: the first failing field of a record loaded as valid. -/
def Profile.firstBad (p : Profile) : Option Nat :=
  Machine.firstBad p.checks

/-! ### Numbers of objects -/

/-- A number below a bound as the object it names. -/
def objectNumber (n x : Nat) : Option (Fin n) :=
  if h : x < n then some ⟨x, h⟩ else none

/-- R166: a profile byte of a window or an override. FFh is none; 16 to 254 fails. -/
inductive ProfileChoice where
  | absent
  | named (p : ProfileId)
  | bad
  deriving DecidableEq, Repr

/-- See `ProfileChoice`. -/
def readProfileChoice (x : Nat) : ProfileChoice :=
  if x = 0xFF then .absent
  else match objectNumber 16 x with
    | some p => .named p
    | none => .bad

/-! ### Windows -/

/-- R31: the first bad field of LOAD WINDOW after the window number. `isDefault` is W0. -/
def windowBad (isDefault : Bool) (body : List Byte) : Option Nat :=
  firstBad
    [(1, isDefault || isFlag (bodyNat body 1 1)),
     (4, readProfileChoice (bodyNat body 2 1) != .bad),
     (5, inRange 0 3 (bodyNat body 3 1))]

/-- R31: the window fields of the body. -/
def readWindowRecord (body : List Byte) : Window :=
  { active := bodyNat body 1 1 == 1
    value := BitVec.ofNat 24 (bodyNat body 4 3)
    mask := BitVec.ofNat 24 (bodyNat body 7 3)
    profile := match readProfileChoice (bodyNat body 2 1) with
      | .named p => some p
      | _ => none
    cls := Fin.ofNat 4 (bodyNat body 3 1) }

/-! ### Markers -/

/-- R56: the first bad field of LOAD MARKER after the index, checked in the order 1, 5, 8, 9, 10. -/
def markerBad (body : List Byte) : Option Nat :=
  firstBad
    [(1, isFlag (bodyNat body 1 1)), (5, inRange 0 2 (bodyNat body 5 1)),
     (8, inRange 0 2 (bodyNat body 6 1)), (9, isFlag (bodyNat body 7 1)),
     (10, isFlag (bodyNat body 8 1))]

/-- R166: the marker layout. -/
def readMarkerRecord (body : List Byte) : Marker :=
  { enabled := bodyNat body 1 1 == 1
    kinds := BitVec.ofNat 3 (bodyNat body 2 1)
    channelValue := BitVec.ofNat 5 (bodyNat body 3 1)
    channelMask := BitVec.ofNat 5 (bodyNat body 4 1)
    field := match bodyNat body 5 1 with
      | 0 => .timestamp
      | 1 => .flags
      | _ => .code
    compareValue := BitVec.ofNat 32 (bodyNat body 12 4)
    compareMask := BitVec.ofNat 32 (bodyNat body 16 4)
    action := match bodyNat body 6 1 with
      | 0 => .none
      | 1 => .cutAt
      | _ => .cutNext
    report := bodyNat body 7 1 == 1
    chapter := bodyNat body 8 1 == 1 }

/-! ### HOLD -/

/-- R158: the first bad field of HOLD. -/
def holdBad (body : List Byte) : Option Nat :=
  firstBad
    [(1, inRange 0 Config.maxIdleWait (bodyNat body 0 2)), (2, isFlag (bodyNat body 2 1)),
     (3, isFlag (bodyNat body 3 1))]

/-! ### The codes of the directives (R166) -/

/-- R166: SET LINK. -/
def codeSetLink : Byte := 0x01
/-- R166: QUERY PART. -/
def codeQueryPart : Byte := 0x02
/-- R166: LOAD PROFILE. -/
def codeLoadProfile : Byte := 0x03
/-- R166: READ PROFILE. -/
def codeReadProfile : Byte := 0x04
/-- R166: LOAD WINDOW. -/
def codeLoadWindow : Byte := 0x05
/-- R166: READ WINDOW. -/
def codeReadWindow : Byte := 0x06
/-- R166: LOAD MARKER. -/
def codeLoadMarker : Byte := 0x07
/-- R166: READ MARKER. -/
def codeReadMarker : Byte := 0x08
/-- R166: CLEAR MATCH. -/
def codeClearMatch : Byte := 0x09
/-- R166: OPEN. -/
def codeOpen : Byte := 0x0A
/-- R166: CLOSE. -/
def codeClose : Byte := 0x0B
/-- R166: ABORT. -/
def codeAbort : Byte := 0x0C
/-- R166: QUERY CHANNEL. -/
def codeQueryChannel : Byte := 0x0D
/-- R166: READ FAULT LOG. -/
def codeReadFaultLog : Byte := 0x0E
/-- R166: CLEAR FAULT LOG. -/
def codeClearFaultLog : Byte := 0x0F
/-- R166: HOLD. -/
def codeHold : Byte := 0x10
/-- R166: RELEASE. -/
def codeRelease : Byte := 0x11
/-- R166: RESTART. -/
def codeRestart : Byte := 0x12

end Sys2Proof.Machine
end

