-- ==== Sys2Proof/Decode.lean ====
section
/-! DEFINITION. `decodeTableWord` over the rows of spec/opcode_table.json that give bits (none do), and
how the port reads a frame of the ingest link's forward direction as a command, with the frame that a
server sends for a command (R135, R164 to R166). -/

namespace Sys2Proof

open Machine

/-- No row of the table gives bits, so no word spells a command. -/
def decodeTableWord (_nbits _w : Nat) : Option Instr :=
  none

namespace Decode

/-! ### Reading a forward frame (R135, R165) -/

/-- The payload part of a delivered frame. -/
def payloadPart (f : RawFrame) : Payload :=
  { length := BitVec.ofNat 16 (headerLengthOf f.header), bytes := f.payload, check := f.check }

/-- R165: the fields of a DIRECTIVE header. -/
def directivePart (f : RawFrame) : DirectiveFrame :=
  { tag := BitVec.ofNat 16 (beNat (field f.header 2 2)), payload := payloadPart f }

/-- R164 and R165: the fields of a MEDIA header. Bits 5 to 7 of the channel byte are ignored. -/
def mediaPart (f : RawFrame) : MediaFrame :=
  { channel := Fin.ofNat 32 (byteAt f.header 1).toNat
    sequence := byteAt f.header 3
    flags := BitVec.ofNat 16 (beNat (field f.header 6 2))
    timestamp := BitVec.ofNat 32 (beNat (field f.header 8 4))
    payload := payloadPart f }

/-- R165: bits 4 and 5 of a MEDIA header's byte 2. -/
def positionOf (b : Byte) : Position :=
  match b.getLsbD 5, b.getLsbD 4 with
  | false, false => .only
  | false, true => .first
  | true, false => .middle
  | true, true => .last

/-- R165: a MEDIA frame, by its unit kind (bits 0 and 1 of byte 2) and its position. -/
def mediaCommand (f : RawFrame) : Instr :=
  let b := byteAt f.header 2
  let p := positionOf b
  match b.getLsbD 1, b.getLsbD 0, p with
  | false, false, .only => .pictureStartFrame .only (mediaPart f)
  | false, false, .first => .pictureStartFrame .first (mediaPart f)
  | false, false, .middle => .pictureContinuationFrame .middle (mediaPart f)
  | false, false, .last => .pictureContinuationFrame .last (mediaPart f)
  | false, true, _ => .smallUnitFrame .audio p (mediaPart f)
  | true, false, _ => .smallUnitFrame .cue p (mediaPart f)
  | true, true, _ => .unitKindNoneFrame p (mediaPart f)

/-- R166: a DIRECTIVE frame, by its code. -/
def directiveCommand (code : Byte) (d : DirectiveFrame) : Instr :=
  if code = codeSetLink then .setLink d
  else if code = codeQueryPart then .queryPart d
  else if code = codeLoadProfile then .loadProfile d
  else if code = codeReadProfile then .readProfile d
  else if code = codeLoadWindow then .loadWindow d
  else if code = codeReadWindow then .readWindow d
  else if code = codeLoadMarker then .loadMarker d
  else if code = codeReadMarker then .readMarker d
  else if code = codeClearMatch then .clearMatch d
  else if code = codeOpen then .openChannel d
  else if code = codeClose then .closeChannel d
  else if code = codeAbort then .abortChannel d
  else if code = codeQueryChannel then .queryChannel d
  else if code = codeReadFaultLog then .readFaultLog d
  else if code = codeClearFaultLog then .clearFaultLog d
  else if code = codeHold then .hold d
  else if code = codeRelease then .release d
  else if code = codeRestart then .restart d
  else .unknownDirective code d

/-- R135: the command that a delivered forward frame is. -/
def ofFrame (f : RawFrame) : Instr :=
  if forwardHeaderFails f.header then .headerCheckFailure f.header
  else if byteAt f.header 0 == mediaKind then mediaCommand f
  else directiveCommand (byteAt f.header 4) (directivePart f)

/-! ### Writing a forward frame (R164, R165) -/

/-- A frame from its first 12 header bytes and its payload part. -/
def frameWith (first12 : List Byte) (p : Payload) : RawFrame :=
  { header := sealHeader (first12 ++ beBytes 2 p.length.toNat), payload := p.bytes,
    check := p.check }

/-- R165: a DIRECTIVE frame. -/
def directiveRaw (code : Byte) (d : DirectiveFrame) : RawFrame :=
  frameWith ([directiveKind, 0] ++ beBytes 2 d.tag.toNat ++ [code] ++ zeros 7) d.payload

/-- R165: byte 2 of a MEDIA header. -/
def unitByte (kind : Nat) (p : Position) : Byte :=
  byteOf (kind + 16 * positionCode p)

/-- R165: a MEDIA frame. -/
def mediaRaw (kind : Nat) (p : Position) (m : MediaFrame) : RawFrame :=
  frameWith ([mediaKind, byteOf m.channel.val, unitByte kind p, m.sequence] ++ zeros 2
    ++ beBytes 2 m.flags.toNat ++ beBytes 4 m.timestamp.toNat) m.payload

/-- The position a starting frame gives. -/
def startPosition : StartPosition → Position
  | .only => .only
  | .first => .first

/-- The position a continuing frame gives. -/
def continuationPosition : ContinuationPosition → Position
  | .middle => .middle
  | .last => .last

/-- R165: the unit kind code of an audio or cue unit. -/
def smallKindCode : SmallKind → Nat
  | .audio => 1
  | .cue => 2

/-- The frame a server sends for a command of the ingest link's forward direction. -/
def toFrame : Instr → Option RawFrame
  | .setLink d => some (directiveRaw codeSetLink d)
  | .queryPart d => some (directiveRaw codeQueryPart d)
  | .loadProfile d => some (directiveRaw codeLoadProfile d)
  | .readProfile d => some (directiveRaw codeReadProfile d)
  | .loadWindow d => some (directiveRaw codeLoadWindow d)
  | .readWindow d => some (directiveRaw codeReadWindow d)
  | .loadMarker d => some (directiveRaw codeLoadMarker d)
  | .readMarker d => some (directiveRaw codeReadMarker d)
  | .clearMatch d => some (directiveRaw codeClearMatch d)
  | .openChannel d => some (directiveRaw codeOpen d)
  | .closeChannel d => some (directiveRaw codeClose d)
  | .abortChannel d => some (directiveRaw codeAbort d)
  | .queryChannel d => some (directiveRaw codeQueryChannel d)
  | .readFaultLog d => some (directiveRaw codeReadFaultLog d)
  | .clearFaultLog d => some (directiveRaw codeClearFaultLog d)
  | .hold d => some (directiveRaw codeHold d)
  | .release d => some (directiveRaw codeRelease d)
  | .restart d => some (directiveRaw codeRestart d)
  | .unknownDirective code d => some (directiveRaw code d)
  | .pictureStartFrame p m => some (mediaRaw 0 (startPosition p) m)
  | .pictureContinuationFrame p m => some (mediaRaw 0 (continuationPosition p) m)
  | .smallUnitFrame k p m => some (mediaRaw (smallKindCode k) p m)
  | .unitKindNoneFrame p m => some (mediaRaw 3 p m)
  | .headerCheckFailure _ | .ingestLinkUp | .ingestLinkDown _ | .pictureCreditGrant
  | .smallCreditGrant | .directiveCreditGrant | .creditFrameSent | .reportFrameSent
  | .egressCredit _ | .egressLinkUp | .egressLinkDown | .egressRead _ | .egressFrameBegin
  | .egressFrameSent | .stallTimerExpiry | .decodeDispatch | .decodeCompletion _ _ _
  | .takeHeldPicture | .engineDispatch | .skipCompletion _ _ | .encodeCompletion _ _
  | .segmentRecord _ | .finalSegmentClose _ | .drainCompletion _ | .abortCompletion _
  | .processCueUnit | .processAudioUnit | .idleTimerExpiry | .powerOnReset
  | .encodeEngineRead _ _ _ => none

end Decode

end Sys2Proof
end

