-- ==== Sys2Proof/Machine/Markers.lean ====
section
/-! DEFINITION. The marker unit (sections 3.7 and 3.8): matching, what a match does, and the merging
of cut requests into a channel's cut pending. -/

namespace Sys2Proof.Machine

/-- A unit as the markers see it, R52. -/
structure MarkedUnit where
  channel : ChannelId
  kind : UnitKind
  time : Nat
  flags : BitVec 16
  code : BitVec 32
  deriving DecidableEq, Repr

/-- R166: the bit of a kinds set that stands for a unit kind. -/
def kindBit : UnitKind → Nat
  | .picture => 0
  | .audio => 1
  | .cue => 2

/-- R52: the 32-bit value of the unit that a marker compares. -/
def MarkedUnit.selected (u : MarkedUnit) : MarkerField → BitVec 32
  | .timestamp => BitVec.ofNat 32 u.time
  | .flags => u.flags.setWidth 32
  | .code => u.code

/-- Two values agree in every bit position where the mask holds 0 (R29, R52). -/
def agreeOutside {w : Nat} (x value mask : BitVec w) : Bool :=
  (x ^^^ value) &&& ~~~mask == 0#w

/-- R52: a marker matches a unit. -/
def Marker.hits (m : Marker) (u : MarkedUnit) : Bool :=
  m.enabled
    && m.kinds.getLsbD (kindBit u.kind)
    && agreeOutside (BitVec.ofNat 5 u.channel.val) m.channelValue m.channelMask
    && agreeOutside (u.selected m.field) m.compareValue m.compareMask

/-- R54: the not-before time of a cut request. -/
def requestTime (action : MarkerAction) (u : MarkedUnit) : Nat :=
  match u.kind, action with
  | .picture, .cutNext => u.time + 1
  | _, _ => u.time

/-- R55: a cut request creates the pending or is merged into it. -/
def mergeRequest (pending : Option CutPending) (notBefore : Nat) (chapter : Option MarkerId) :
    CutPending :=
  match pending with
  | none => { notBefore := notBefore, chapter := chapter }
  | some p =>
    { notBefore := min p.notBefore notBefore
      chapter := match p.chapter with
        | some m => some m
        | none => chapter }

/-- R53: the effect of one marker's match: its flag, its MARK event, its cut request. -/
def State.markerMatch (s : State) (i : MarkerId) (u : MarkedUnit) : State :=
  let m := s.markers[i]
  let s1 : State := { s with matchFlags := s.matchFlags.set i true }
  let s2 := if m.report then s1.raise (.mark i u.channel u.kind u.time) else s1
  match m.action with
  | .none => s2
  | .cutAt | .cutNext =>
    s2.modChannel u.channel (fun c =>
      { c with cutPending := some (mergeRequest c.cutPending (requestTime m.action u)
          (if m.chapter then some i else none)) })

/-- R52 and R53: the four markers are evaluated against a unit, M0 first. -/
def State.evaluateMarkers (s : State) (u : MarkedUnit) : State :=
  (List.finRange 4).foldl
    (fun t i => if t.markers[i].hits u then t.markerMatch i u else t) s

end Sys2Proof.Machine
end

