-- ==== Sys2Proof/Machine/RateControl.lean ====
section
/-! DEFINITION. Rate control (chapter 4): the virtual buffer of a video rendition, the quality index
of a dispatch, output dimensions, and the updates at completions. All of it exact integer
arithmetic, with the rounding of each division as the rules name it. -/

namespace Sys2Proof.Machine

/-- R61: S = B × W, in bits. -/
def RenditionSpec.bufferSize (r : RenditionSpec) : Nat :=
  r.bitrate * r.window

/-- R61: the cap in bytes. -/
def RenditionSpec.capBytes (r : RenditionSpec) : Nat :=
  r.cap * 1024

/-- R62: the budget of a job, floor(B × Δt / 48,000) bits. -/
def RenditionSpec.budget (r : RenditionSpec) (delta : Nat) : Nat :=
  r.bitrate * delta / Config.ticksPerSecond

/-- R63: the fullness index d = floor(F × 64 / S). -/
def RenditionSpec.fullnessIndex (r : RenditionSpec) (fullness : Nat) : Nat :=
  fullness * 64 / r.bufferSize

/-- R63: the offset, (d − 32) × G divided by 8 and truncated toward zero. -/
def RenditionSpec.offset (r : RenditionSpec) (fullness : Nat) : Int :=
  (((r.fullnessIndex fullness : Int) - 32) * (r.gain : Int)).tdiv 8

/-- Conventions, Arithmetic: x limited to the range lo to hi. -/
def clampInt (x lo hi : Int) : Int :=
  max lo (min x hi)

/-- R64: the QI of a dispatch, clamp(Qnom + offset − k, Qmin, Qmax). -/
def RenditionSpec.qualityIndex (r : RenditionSpec) (fullness : Nat) (key : Bool) : Nat :=
  (clampInt ((r.qnom : Int) + r.offset fullness - (if key then (r.keyOffset : Int) else 0))
    (r.qmin : Int) (r.qmax : Int)).toNat

/-- R65: the output dimensions of an engine job. -/
def RenditionSpec.outputDims (r : RenditionSpec) (width height : Nat) : Nat × Nat :=
  (min r.width (width / 16 * 16), min r.height (height / 8 * 8))

/-- R66: a job is dispatched key-required when it was created so, when the reference is not valid,
or when its output dimensions differ from the last ones. -/
def dispatchKey (created : Bool) (c : RenditionContext) (dims : Nat × Nat) : Bool :=
  created || !c.referenceValid || c.dims != some dims

/-- R68: F' = F + 8 × C − budget, as an integer. -/
def newFullness (fullness size budget : Nat) : Int :=
  (fullness : Int) + 8 * (size : Int) - (budget : Int)

/-- R68: the context after F' is applied: clamped to 0 and S, an overflow setting skip pending. -/
def RenditionContext.applyFullness (c : RenditionContext) (f' : Int) (size : Nat) :
    RenditionContext :=
  if (size : Int) < f' then { c with fullness := size, skipPending := true }
  else if f' < 0 then { c with fullness := 0 }
  else { c with fullness := f'.toNat }

/-- R68: the counters F' raises. -/
def ChannelCounters.applyFullness (c : ChannelCounters) (f' : Int) (size : Nat) : ChannelCounters :=
  if (size : Int) < f' then c.overflowed
  else if f' < 0 then c.underflowed
  else c

/-- R68: the fullness update of rendition `r` of a channel at a completion of `size` bytes. -/
def Channel.updateFullness (c : Channel) (spec : RenditionSpec) (r delta size : Nat) : Channel :=
  match c.contexts[r]? with
  | none => c
  | some ctx =>
    let f' := newFullness ctx.fullness size (spec.budget delta)
    { c.modContext r (fun x => x.applyFullness f' spec.bufferSize) with
      counters := c.counters.applyFullness f' spec.bufferSize }

/-- R71: a skip completion. Skip pending is cleared for a good picture, then F is updated with 16
bytes, then skip pictures +1. -/
def Channel.skipCompleted (c : Channel) (spec : RenditionSpec) (r delta : Nat) (good : Bool) :
    Channel :=
  let c1 := if good then c.modContext r (fun x => { x with skipPending := false }) else c
  let c2 := c1.updateFullness spec r delta Config.skipUnitBytes
  { c2 with counters := c2.counters.skipped }

end Sys2Proof.Machine
end

