-- ==== Sys2Proof/Machine/Segmenter.lean ====
section
/-! DEFINITION. The segmenter (chapter 3): what it does with a picture it takes (R37 to R47), and the
segment table's closings and records (R11, R48, R49). -/

namespace Sys2Proof.Machine

/-! ### The segment table -/

/-- The newest entry of a segment table. -/
def Channel.newest (c : Channel) : Option SegmentEntry :=
  c.segments.getLast?

/-- The newest entry rewritten. -/
def Channel.modNewest (c : Channel) (f : SegmentEntry → SegmentEntry) : Channel :=
  match c.segments.getLast? with
  | none => c
  | some e => { c with segments := c.segments.dropLast ++ [f e] }

/-- A fresh OPEN entry, R40 and R43. -/
def SegmentEntry.fresh (number start : Nat) (chapter : Option Chapter) : SegmentEntry :=
  { number := number, state := .opened, start := start, pictures := 0, outstanding := 0,
    bytes := Vector.replicate 5 0, chapter := chapter }

/-- Bytes added to an entry's count for a rendition (0 to 3 video, 4 audio). -/
def SegmentEntry.addBytes (e : SegmentEntry) (r n : Nat) : SegmentEntry :=
  if h : r < 5 then
    { e with bytes := e.bytes.set r (raiseCounter Config.max64 e.bytes[r] n) }
  else e

/-- R48: a job of rendition `r` completes in segment `number` with a unit of `size` bytes. -/
def Channel.completeInSegment (c : Channel) (number r size : Nat) : Channel :=
  { c with segments := c.segments.map (fun e =>
      if e.number == number then
        { e.addBytes r size with outstanding := e.outstanding - 1 }
      else e) }

/-! ### The cut decision (R40 to R43) -/

/-- The chapter a segment records when a pending is consumed (R55). -/
def CutPending.chapterOf (p : CutPending) : Option Chapter :=
  p.chapter.map (fun m => { marker := m, notBefore := p.notBefore })

/-- R40: a first good picture at `t` creates segment 0. -/
def Channel.firstCut (c : Channel) (p : Profile) (t : Nat) : Channel :=
  let consumed : Option CutPending :=
    match c.cutPending with
    | some q => if q.notBefore ≤ t then some q else none
    | none => none
  { c with
    firstGood := true
    segments := c.segments ++
      [(SegmentEntry.fresh 0 t (consumed.bind CutPending.chapterOf)).addBytes 4 c.preSegmentAudio]
    preSegmentAudio := 0
    nextCut := t + p.segmentTicks
    cutPending := if consumed.isSome then none else c.cutPending }

/-- R41: a timed cut is due at `t`. -/
def Channel.timedDue (c : Channel) (t : Nat) : Bool :=
  decide (c.nextCut ≤ t)

/-- R41: a marker cut is due at `t`. -/
def Channel.markerDue (c : Channel) (p : Profile) (t : Nat) : Bool :=
  match c.cutPending, c.newest with
  | some q, some e => decide (q.notBefore ≤ t) && decide (p.minimumTicks ≤ t - e.start)
  | _, _ => false

/-- R43: a cut at `t` after the first. -/
def Channel.laterCut (c : Channel) (p : Profile) (t : Nat) : Channel :=
  match c.newest with
  | none => c
  | some e =>
    let due := c.markerDue p t
    let chapter : Option Chapter := if due then c.cutPending.bind CutPending.chapterOf else none
    { c with
      segments := c.segments.dropLast ++
        [{ e with state := .closing (t - e.start) }, SegmentEntry.fresh (e.number + 1) t chapter]
      nextCut := t + p.segmentTicks
      cutPending := if due then none else c.cutPending }

/-- R40 to R43: the cut decision at a picture, and whether it is a cut picture. -/
def Channel.decideCut (c : Channel) (p : Profile) (good : Bool) (t : Nat) : Channel × Bool :=
  if !c.firstGood then
    if good then (c.firstCut p t, true) else (c, false)
  else if (c.timedDue t || c.markerDue p t) && good
      && decide (c.segments.length < Config.segmentTableEntries) then
    (c.laterCut p t, true)
  else (c, false)

/-! ### Jobs (R45 to R47) -/

/-- R46: the skip flag of a job of rendition `r` at its creation. -/
def Channel.skipAtCreation (c : Channel) (good cut : Bool) (r : Nat) : Bool :=
  !good || (!cut && (match c.contexts[r]? with
    | some x => x.skipPending
    | none => false))

/-- R45: the job of rendition `r` for a picture. -/
def Channel.makeJob (c : Channel) (pic : DecodedPicture) (number : Nat) (cut : Bool) (r : Nat) :
    Job :=
  { channel := pic.channel
    rendition := r
    picture := number
    segment := match c.newest with
      | some e => e.number
      | none => 0
    source := pic.source
    time := pic.time
    delta := pic.delta
    keyRequired := cut
    skip := c.skipAtCreation pic.source.isSome cut r
    cls := c.cls
    state := .queued }

/-- R45: the V jobs of a picture, in rendition order. -/
def Channel.makeJobs (c : Channel) (pic : DecodedPicture) (number : Nat) (cut : Bool) (v : Nat) :
    List Job :=
  (List.range v).map (c.makeJob pic number cut)

/-- R45: the picture joins the OPEN entry. -/
def Channel.join (c : Channel) (v : Nat) : Channel :=
  c.modNewest (fun e =>
    { e with pictures := count32 e.pictures, outstanding := e.outstanding + v })

/-- R47: the source slot of a good picture enters SOURCE with the number of its engine jobs, or is
freed when there is none. -/
def SlotPool.setSource (p : SlotPool) (source : Option SourcePicture) (engineJobs : Nat) :
    SlotPool :=
  match source with
  | none => p
  | some src =>
    if engineJobs = 0 then p.release src.slot else p.mark src.slot (.source engineJobs)

/-- R39: the picture as the markers see it. -/
def DecodedPicture.marked (pic : DecodedPicture) : MarkedUnit :=
  { channel := pic.channel, kind := .picture, time := pic.time, flags := pic.flags, code := 0 }

/-- R39 to R47: the segmenter's whole work on a picture it takes. -/
def State.takePicture (s : State) (pic : DecodedPicture) : State :=
  let number := (s.channel pic.channel).pictureNumber
  let p := s.profileOf pic.channel
  let s1 := s.modChannel pic.channel (fun c =>
    { c with lastDelta := pic.delta, pictureNumber := count32 number })
  let s2 := s1.evaluateMarkers pic.marked
  let (c, cut) := (s2.channel pic.channel).decideCut p pic.source.isSome pic.time
  let jobs := c.makeJobs pic number cut p.count
  let s3 := s2.modChannel pic.channel (fun _ => c.join p.count)
  { s3 with
    jobs := s3.jobs ++ jobs
    pool := s3.pool.setSource pic.source (jobs.filter (fun j => !j.skip)).length }

/-- R38: a concealed picture before the first good picture is dropped. -/
def State.dropConcealed (s : State) (pic : DecodedPicture) : State :=
  s.modChannel pic.channel (fun c => { c with lastDelta := pic.delta })

/-- R37: V entries of the job queue are free. -/
def State.jobRoomFor (s : State) (ch : ChannelId) : Bool :=
  decide (s.jobs.length + (s.profileOf ch).count ≤ Config.jobQueueEntries)

/-- The channel's decode in flight becomes no (R106). -/
def State.clearDecode (s : State) (ch : ChannelId) : State :=
  s.modChannel ch (fun c => { c with decodeInFlight := false })

/-! ### SEGMENT_RECORD and FINAL_SEGMENT_CLOSE -/

/-- R49: the record of an entry. -/
def SegmentEntry.record (e : SegmentEntry) (ch : ChannelId) (duration : Nat) : SegmentRecord :=
  { channel := ch, number := e.number, start := e.start, duration := duration,
    pictures := e.pictures, bytes := e.bytes, chapter := e.chapter }

/-- R49: the oldest entry is ready, with the record it yields. -/
def Channel.readyRecord (c : Channel) (ch : ChannelId) : Option SegmentRecord :=
  match c.segments with
  | [] => none
  | e :: _ =>
    match e.state with
    | .opened => none
    | .closing d => if e.outstanding = 0 then some (e.record ch d) else none

/-- SEGMENT_RECORD, R49. -/
def execSegmentRecord (ch : ChannelId) (s : State) : Host.Outcome State Fault Refusal :=
  let s := s.beginReturn
  match (s.channel ch).readyRecord ch with
  | none => .next s
  | some r =>
    if s.egress.room < Config.recordBytes then .next s
    else
      .next ((s.enqueue (.segment r)).modChannel ch (fun c =>
        { c with segments := c.segments.tail, counters := c.counters.emitted }))

/-- R11 and R12: no picture of the channel is waiting for or in decode, and no unit of it is in the
small-unit buffer. -/
def State.inputsDone (s : State) (ch : ChannelId) : Bool :=
  s.decode.queue.all (fun e => e.channel != ch)
    && !(s.channel ch).decodeInFlight
    && s.small.all (fun u => u.channel != ch)

/-- R11: the duration of a channel's final segment, limited to 32 bits. -/
def Channel.finalDuration (c : Channel) (start : Nat) : Nat :=
  min Config.max32 (c.lastPicture.getD 0 - c.base.getD 0 + c.lastDelta - start)

/-- FINAL_SEGMENT_CLOSE, R11 and R44. -/
def execFinalSegmentClose (ch : ChannelId) (s : State) : Host.Outcome State Fault Refusal :=
  let s := s.beginReturn
  let c := s.channel ch
  match c.newest with
  | none => .next s
  | some e =>
    if c.state == .draining && s.inputsDone ch && e.isOpen then
      .next (s.modChannel ch (fun c =>
        { c.modNewest (fun e => { e with state := .closing (c.finalDuration e.start) }) with
          cutPending := none }))
    else .next s

/-- TAKE_HELD_PICTURE, R38: the oldest held picture is taken once V entries are free. -/
def execTakeHeldPicture (s : State) : Host.Outcome State Fault Refusal :=
  let s := s.beginReturn
  match s.decode.held with
  | [] => .next s
  | e :: rest =>
    match s.decode.engines[e] with
    | .holding pic =>
      if s.jobRoomFor pic.channel then
        let t := (s.takePicture pic).clearDecode pic.channel
        .next { t with decode := { t.decode with
          engines := t.decode.engines.set e .idle, held := rest } }
      else .next s
    | _ => .next s

end Sys2Proof.Machine
end

