-- ==== Sys2Proof/Machine/Audio.lean ====
section
/-! DEFINITION. The audio path (chapter 8): the head of the small-unit buffer, cue units, the
leveller, and the sending of levelled audio. -/

namespace Sys2Proof.Machine

/-! ### Units and samples (R114, R117, R168) -/

/-- R168: the 16-bit samples of a payload, most significant byte first. -/
def samplesOf : List Byte → List (BitVec 16)
  | hi :: lo :: rest => (hi ++ lo) :: samplesOf rest
  | _ => []

/-- R117: an audio unit is malformed. -/
def audioMalformed (payload : List Byte) : Bool :=
  payload.length % 2 != 0 || decide (payload.length < 32) || decide (3840 < payload.length)

/-- R116 and R117: the unit as the markers see it. -/
def State.smallMarked (s : State) (u : SmallUnit) (code : BitVec 32) : MarkedUnit :=
  { channel := u.channel
    kind := match u.kind with
      | .audio => .audio
      | .cue => .cue
    time := u.timestamp - (s.channel u.channel).base.getD 0
    flags := u.flags
    code := code }

/-! ### The leveller (R118, R119) -/

/-- R118: s × g / 4096 rounded to the nearest integer, halves upward, before clamping. -/
def scaled (gain : Nat) (x : BitVec 16) : Int :=
  (x.toInt * (gain : Int) + 2048).fdiv 4096

/-- R118: a value limited to the 16-bit range. -/
def clampSample (y : Int) : Int :=
  max (-32768) (min y 32767)

/-- R118: a levelled sample. -/
def levelSample (gain : Nat) (x : BitVec 16) : BitVec 16 :=
  BitVec.ofInt 16 (clampSample (scaled gain x))

/-- R118: the samples that are clamped. -/
def clippedCount (gain : Nat) (samples : List (BitVec 16)) : Nat :=
  (samples.filter (fun x => clampSample (scaled gain x) != scaled gain x)).length

/-- R119: P, the largest magnitude among the output samples. -/
def peak (gain : Nat) (samples : List (BitVec 16)) : Nat :=
  samples.foldl (fun m x => max m (clampSample (scaled gain x)).natAbs) 0

/-- R119: the leveller adapts after a unit whose peak is P. -/
def Leveller.adapt (l : Leveller) (p : Profile) (peak : Nat) : Leveller :=
  if p.high < peak then { gain := max Config.minGain (l.gain - l.gain / 16), quietRun := 0 }
  else if peak < p.low then
    if l.quietRun + 1 < p.quietRun then { l with quietRun := l.quietRun + 1 }
    else { gain := min p.maximumGain (l.gain + l.gain / 32), quietRun := 0 }
  else { l with quietRun := 0 }

/-! ### Sending (R120) -/

/-- R120: the segment number an audio unit carries. -/
def Channel.audioSegment (c : Channel) : Nat :=
  match c.newest with
  | some e => e.number
  | none => 0

/-- R120: the unit's bytes are added to the newest entry, or to the pre-segment bytes. -/
def Channel.addAudio (c : Channel) (n : Nat) : Channel :=
  match c.newest with
  | some _ => c.modNewest (fun e => e.addBytes 4 n)
  | none => { c with preSegmentAudio := raiseCounter Config.max64 c.preSegmentAudio n }

/-- R118 to R120: a unit is levelled, counted and enqueued, and the leveller adapts. -/
def State.sendAudio (s : State) (u : SmallUnit) : State :=
  let c := s.channel u.channel
  let p := s.profileOf u.channel
  let samples := samplesOf u.payload
  let g := c.leveller.gain
  let tag : UnitTag :=
    { channel := u.channel, rendition := 4, segment := c.audioSegment,
      time := u.timestamp - c.base.getD 0, key := true }
  let t := s.modChannel u.channel (fun c =>
    { c.addAudio (2 * samples.length) with
      leveller := c.leveller.adapt p (peak g samples)
      counters := c.counters.clipped (clippedCount g samples) })
  t.enqueue (.audio tag (samples.map (levelSample g)))

/-- R115: an audio unit that is sent, not discarded after evaluation. -/
def State.audioSends (s : State) (u : SmallUnit) : Bool :=
  (s.profileOf u.channel).audioEnabled == 1 && !audioMalformed u.payload

/-- R115: the entry at the head has been finished with. -/
def State.releaseHead (s : State) : State :=
  { s with small := s.small.tail }

/-- PROCESS_AUDIO_UNIT, R115, R117 to R120. -/
def execProcessAudioUnit (s : State) : Host.Outcome State Fault Refusal :=
  let s := s.beginReturn
  match s.hold.part, s.small.head? with
  | .running, some u =>
    match u.kind with
    | .cue => .next s
    | .audio =>
      if s.audioSends u then
        if s.egress.room < 2 * (samplesOf u.payload).length then .next s
        else .next ((s.evaluateMarkers (s.smallMarked u 0)).sendAudio u).releaseHead
      else .next (s.evaluateMarkers (s.smallMarked u 0)).releaseHead
  | _, _ => .next s

/-- PROCESS_CUE_UNIT, R115 and R116. A payload of any length but 4 is discarded unevaluated. -/
def execProcessCueUnit (s : State) : Host.Outcome State Fault Refusal :=
  let s := s.beginReturn
  match s.hold.part, s.small.head? with
  | .running, some u =>
    match u.kind with
    | .audio => .next s
    | .cue =>
      if u.payload.length = 4 then
        .next (s.evaluateMarkers
          (s.smallMarked u (BitVec.ofNat 32 (beNat u.payload)))).releaseHead
      else .next s.releaseHead
  | _, _ => .next s

end Sys2Proof.Machine
end

