-- ==== Sys2Proof/Machine/Ingest.lean ====
section
/-! DEFINITION. The ingest port (chapter 10): loss and resynchronisation, the steps of R135 for
media frames, reassembly, acceptance (R5 to R7), credit grants, and the frames of the return
direction. -/

namespace Sys2Proof.Machine

/-! ### Loss of the link and resynchronisation (R145, R147) -/

/-- A channel's reassembly context rewritten. -/
def State.setPartial (s : State) (ch : ChannelId) (a : Option PartialPicture) : State :=
  s.modChannel ch (fun c => { c with assembly := a })

/-- A channel's partial picture, if any, is discarded: its slot is freed and units lost +1 (R94). -/
def State.discardPartial (s : State) (ch : ChannelId) : State :=
  match (s.channel ch).assembly with
  | none => s
  | some p =>
    (s.releaseSlot p.slot).modChannel ch (fun c =>
      { c with assembly := none, counters := c.counters.lost })

/-- R147 steps 1 and 2, with R89's order: the partials in channel order, then every outstanding
credit voided and the RESERVED slots freed, oldest first. -/
def State.ingestLoss (s : State) : State :=
  let t := (List.finRange 32).foldl State.discardPartial s
  { t with
    pool := t.pool.voidReserved
    ingest := { t.ingest with smallOutstanding := 0, directiveUnspent := 0 } }

/-- R145 and R147: the CREDIT frames waiting are discarded (one that is being sent goes to its end),
and a reset frame follows. -/
def IngestPort.queueReset (p : IngestPort) : IngestPort :=
  { p with creditQueue := (if p.wire == .credit then p.creditQueue.take 1 else []) ++ [.reset] }

/-- R145: the port resynchronises while the link stays UP. -/
def State.resynchronise (s : State) : State :=
  let t := s.ingestLoss
  { t with ingest := t.ingest.queueReset }

/-- The frame counters rewritten. -/
def State.countFrame (s : State) (f : FrameCounters → FrameCounters) : State :=
  { s with ingest := { s.ingest with counters := f s.ingest.counters } }

/-- R145: a header check failure, counted and followed by a resynchronisation. -/
def State.headerFailure (s : State) : State :=
  (s.countFrame FrameCounters.countHeader).resynchronise

/-! ### Admission (R135 to R137, R144) -/

/-- The steps of R135 disposed of the frame, or handed it on. -/
inductive Admission where
  | ended (s : State)
  | admitted (s : State)

/-- R135 for a directive frame. A directive received before the loss of the link has passed these
steps already and is taken with the credit it spent (R147, assumption 6, DEDUCED). No frame is
delivered on a DOWN link (assumption 2, DESIGN CHOICE). A payload failure releases the credit and no
reply is made (R144). -/
def State.admitDirective (s : State) (f : DirectiveFrame) : Admission :=
  if 0 < s.ingest.inHand then .admitted s
  else if s.ingest.link != .up then .ended s
  else if !lengthInRange f.payload.length.toNat then .ended s.headerFailure
  else if s.ingest.directiveUnspent = 0 then
    .ended (s.countFrame FrameCounters.countUncredited)
  else
    let t : State := { s with ingest := { s.ingest with
      directiveUnspent := s.ingest.directiveUnspent - 1, inHand := s.ingest.inHand + 1 } }
    if payloadPasses f.payload then .admitted t
    else
      .ended { t with ingest := { t.ingest with
        inHand := t.ingest.inHand - 1, counters := t.ingest.counters.countPayload } }

/-- R144: a unit is lost with the frame that began it. -/
def State.loseUnit (s : State) (ch : ChannelId) : State :=
  s.count ch ChannelCounters.lost

/-! ### Acceptance (R5 to R7) -/

/-- R5: a channel with no base adopts the unit's timestamp. -/
def Channel.adoptBase (c : Channel) (timestamp : Nat) : Channel :=
  match c.base with
  | none => { c with base := some timestamp }
  | some _ => c

/-- A timestamp below the base of a channel that has one. -/
def Channel.belowBase (c : Channel) (timestamp : Nat) : Bool :=
  match c.base with
  | none => false
  | some b => decide (timestamp < b)

/-- R6: a completed picture is late. -/
def Channel.pictureLate (c : Channel) (timestamp : Nat) : Bool :=
  c.belowBase timestamp ||
    (match c.lastPicture with
      | none => false
      | some l => decide (timestamp ≤ l))

/-- R6: the Δt of an accepted picture. -/
def Channel.pictureDelta (c : Channel) (hint timestamp : Nat) : Nat :=
  match c.lastPicture with
  | none => hint
  | some l => min Config.maxDeltaTicks (timestamp - l)

/-- R5: a unit's timestamp less the base of its channel. -/
def Channel.rebase (c : Channel) (timestamp : Nat) : Nat :=
  timestamp - c.base.getD 0

/-- R5 and R6: a picture that completes reassembly is dropped as late or joins the decode queue. -/
def State.acceptPicture (s : State) (ch : ChannelId) (slot : SlotId) (timestamp : Nat)
    (flags : BitVec 16) : State :=
  let c := (s.channel ch).adoptBase timestamp
  if c.pictureLate timestamp then
    (s.releaseSlot slot).modChannel ch (fun _ => { c with counters := c.counters.late })
  else
    let t := (s.markSlot slot .decodeWait).modChannel ch (fun _ =>
      { c with lastPicture := some timestamp })
    let entry : DecodeEntry :=
      { channel := ch, slot := slot, time := c.rebase timestamp,
        delta := c.pictureDelta (s.profileOf ch).intervalHint timestamp, flags := flags }
    { t with decode := { t.decode with queue := t.decode.queue ++ [entry] } }

/-- R7: a completed audio or cue unit is late. -/
def Channel.smallLate (c : Channel) (k : SmallKind) (timestamp : Nat) : Bool :=
  c.belowBase timestamp ||
    (match k, c.lastAudio with
      | .audio, some l => decide (timestamp < l)
      | _, _ => false)

/-- R5, R7 and R114: an audio or cue unit is dropped as late or keeps its entry at the tail of the
small-unit buffer. -/
def State.acceptSmall (s : State) (k : SmallKind) (f : MediaFrame) : State :=
  let c := (s.channel f.channel).adoptBase f.timestamp.toNat
  if c.smallLate k f.timestamp.toNat then
    s.modChannel f.channel (fun _ => { c with counters := c.counters.late })
  else
    let t := s.modChannel f.channel (fun _ =>
      match k with
      | .audio => { c with lastAudio := some f.timestamp.toNat }
      | .cue => c)
    { t with small := t.small ++
        [{ channel := f.channel, kind := k, timestamp := f.timestamp.toNat, flags := f.flags,
           payload := f.payload.bytes }] }

/-! ### Media frames -/

/-- R143: the frame is stray. -/
def State.stray (s : State) : State :=
  s.countFrame FrameCounters.countStray

/-- R142: a credited picture frame with a good payload, its slot taken from the oldest RESERVED. -/
def State.startPicture (s : State) (p : StartPosition) (f : MediaFrame) (slot : SlotId) : State :=
  if (s.channel f.channel).isRunning then
    let t := s.discardPartial f.channel
    let u : State := { t with pool := t.pool.fill slot f.payload.bytes }
    match p with
    | .first =>
      u.setPartial f.channel (some
        { slot := slot, bytes := f.payload.bytes.length, expected := f.sequence + 1,
          timestamp := f.timestamp.toNat, flags := f.flags })
    | .only => u.acceptPicture f.channel slot f.timestamp.toNat f.flags
  else (s.releaseSlot slot).stray

/-- R144: a credited picture frame with a bad payload. -/
def State.startPictureFailed (s : State) (f : MediaFrame) (slot : SlotId) : State :=
  let t := (s.releaseSlot slot).countFrame FrameCounters.countPayload
  if (t.channel f.channel).isRunning then
    (t.discardPartial f.channel).loseUnit f.channel
  else t

/-- PICTURE_START_FRAME, R135, R137, R142, R144. -/
def execPictureStartFrame (p : StartPosition) (f : MediaFrame) (s : State) :
    Host.Outcome State Fault Refusal :=
  let s := s.beginReturn
  if s.ingest.link != .up then .next s
  else if !lengthInRange f.payload.length.toNat then .next s.headerFailure
  else
    match s.pool.reserved with
    | [] => .next (s.countFrame FrameCounters.countUncredited)
    | slot :: rest =>
      let t : State := { s with pool := { s.pool with reserved := rest } }
      if payloadPasses f.payload then .next (t.startPicture p f slot)
      else .next (t.startPictureFailed f slot)

/-- R143 and R94: a continuation frame with a good payload. -/
def State.continuePicture (s : State) (p : ContinuationPosition) (f : MediaFrame) : State :=
  let c := s.channel f.channel
  match c.isRunning, c.assembly with
  | true, some part =>
    if f.sequence != part.expected then s.discardPartial f.channel
    else if Config.compressedAreaBytes < part.bytes + f.payload.bytes.length then
      s.discardPartial f.channel
    else
      let t : State := { s with pool := s.pool.append part.slot f.payload.bytes }
      match p with
      | .middle =>
        t.setPartial f.channel (some
          { part with bytes := part.bytes + f.payload.bytes.length,
                      expected := part.expected + 1 })
      | .last =>
        (t.setPartial f.channel none).acceptPicture f.channel part.slot part.timestamp part.flags
  | _, _ => s.stray

/-- R144: a continuation frame with a bad payload. -/
def State.continuationFailed (s : State) (f : MediaFrame) : State :=
  let t := s.countFrame FrameCounters.countPayload
  if (t.channel f.channel).isRunning then t.discardPartial f.channel else t

/-- PICTURE_CONTINUATION_FRAME, R135, R143, R144. -/
def execPictureContinuationFrame (p : ContinuationPosition) (f : MediaFrame) (s : State) :
    Host.Outcome State Fault Refusal :=
  let s := s.beginReturn
  if s.ingest.link != .up then .next s
  else if !lengthInRange f.payload.length.toNat then .next s.headerFailure
  else if payloadPasses f.payload then .next (s.continuePicture p f)
  else .next (s.continuationFailed f)

/-- R142 and R143: a credited audio or cue frame with a good payload. -/
def State.startSmall (s : State) (k : SmallKind) (p : Position) (f : MediaFrame) : State :=
  if (s.channel f.channel).isRunning && p == .only then s.acceptSmall k f else s.stray

/-- R144: a credited audio or cue frame with a bad payload. -/
def State.smallFailed (s : State) (p : Position) (f : MediaFrame) : State :=
  let t := s.countFrame FrameCounters.countPayload
  if (t.channel f.channel).isRunning && p == .only then t.loseUnit f.channel else t

/-- SMALL_UNIT_FRAME, R135, R137, R142 to R144. -/
def execSmallUnitFrame (k : SmallKind) (p : Position) (f : MediaFrame) (s : State) :
    Host.Outcome State Fault Refusal :=
  let s := s.beginReturn
  if s.ingest.link != .up then .next s
  else if !lengthInRange f.payload.length.toNat then .next s.headerFailure
  else if s.ingest.smallOutstanding = 0 then
    .next (s.countFrame FrameCounters.countUncredited)
  else
    let t : State := { s with ingest := { s.ingest with
      smallOutstanding := s.ingest.smallOutstanding - 1 } }
    if payloadPasses f.payload then .next (t.startSmall k p f) else .next (t.smallFailed p f)

/-- UNIT_KIND_NONE_FRAME, R143 and R144: no credit; stray when its payload passes. -/
def execUnitKindNoneFrame (_p : Position) (f : MediaFrame) (s : State) :
    Host.Outcome State Fault Refusal :=
  let s := s.beginReturn
  if s.ingest.link != .up then .next s
  else if !lengthInRange f.payload.length.toNat then .next s.headerFailure
  else if payloadPasses f.payload then .next s.stray
  else .next (s.countFrame FrameCounters.countPayload)

/-- HEADER_CHECK_FAILURE, R135 and R145. A header that passes is no such event. -/
def execHeaderCheckFailure (header : List Byte) (s : State) : Host.Outcome State Fault Refusal :=
  let s := s.beginReturn
  if s.ingest.link == .up && forwardHeaderFails header then .next s.headerFailure else .next s

/-! ### The link itself (R147) -/

/-- INGEST_LINK_UP, R147 and R141: the reset frame goes first. -/
def execIngestLinkUp (s : State) : Host.Outcome State Fault Refusal :=
  let s := s.beginReturn
  if s.ingest.link == .up then .next s
  else
    .next { s with ingest := { s.ingest with
      link := .up, creditQueue := [.reset], wire := .idle } }

/-- INGEST_LINK_DOWN, R147. `inHand` directive frames have been received and not yet taken: their
credits are spent and stay held (assumption 6, DEDUCED). R147 says nothing of MEDIA frames received
whole and not yet handled: the model has none, since one that counts is handled before the loss and
one commanded after it is ignored (assumption 27, DESIGN CHOICE). A frame on the return direction is
lost; its report stays. -/
def execIngestLinkDown (inHand : Nat) (s : State) : Host.Outcome State Fault Refusal :=
  let s := s.beginReturn
  if s.ingest.link == .down then .next s
  else
    let kept := min inHand s.ingest.directiveUnspent
    let t := s.ingestLoss
    .next { t with ingest := { t.ingest with
      link := .down, inHand := s.ingest.inHand + kept, creditQueue := [], wire := .idle } }

/-! ### Credit grants (R138 to R140) -/

/-- A grant frame joins the CREDIT frames waiting to be sent. -/
def IngestPort.queueGrant (p : IngestPort) (cls : CreditClass) (n : Nat) : IngestPort :=
  { p with creditQueue := p.creditQueue ++ [.grant cls n] }

/-- R138: how many PICTURE credits the condition allows now. -/
def State.pictureGrant (s : State) : Nat :=
  if s.ingest.link == .up && s.hold.part == .running then
    min (s.settings.pictureLimit - s.pool.reserved.length)
      (s.pool.free.length - Config.engineReserve)
  else 0

/-- R139: how many SMALL credits the condition allows now. -/
def State.smallGrant (s : State) : Nat :=
  if s.ingest.link == .up && s.hold.part == .running then
    min (s.settings.smallLimit - s.ingest.smallOutstanding)
      (Config.smallBufferEntries - s.small.length - s.ingest.smallOutstanding)
  else 0

/-- R140: how many DIRECTIVE credits the condition allows now. -/
def State.directiveGrant (s : State) : Nat :=
  if s.ingest.link == .up then Config.reportQueueEntries - s.reportCount else 0

/-- PICTURE_CREDIT_GRANT, R138 and R92: one slot reserved for each credit. -/
def execPictureCreditGrant (s : State) : Host.Outcome State Fault Refusal :=
  let n := s.pictureGrant
  if n = 0 then .next s
  else
    .next { s with
      pool := s.pool.reserveMany n
      ingest := s.ingest.queueGrant .picture n }

/-- SMALL_CREDIT_GRANT, R139. -/
def execSmallCreditGrant (s : State) : Host.Outcome State Fault Refusal :=
  let n := s.smallGrant
  if n = 0 then .next s
  else
    .next { s with ingest :=
      { s.ingest.queueGrant .small n with smallOutstanding := s.ingest.smallOutstanding + n } }

/-- DIRECTIVE_CREDIT_GRANT, R140. -/
def execDirectiveCreditGrant (s : State) : Host.Outcome State Fault Refusal :=
  let n := s.directiveGrant
  if n = 0 then .next s
  else
    .next { s with ingest :=
      { s.ingest.queueGrant .directive n with directiveUnspent := s.ingest.directiveUnspent + n } }

/-! ### The return direction (R141, R151) -/

/-- CREDIT_FRAME_SENT, R141: the frame leaves the queue. -/
def execCreditFrameSent (s : State) : Host.Outcome State Fault Refusal :=
  let s := s.beginReturn
  if s.ingest.wire == .credit then
    .next { s with ingest := { s.ingest with
      wire := .idle, creditQueue := s.ingest.creditQueue.tail } }
  else .next s

/-- REPORT_FRAME_SENT, R151: the report leaves the queue, unless a RESTART has taken it out. -/
def execReportFrameSent (s : State) : Host.Outcome State Fault Refusal :=
  let s := s.beginReturn
  match s.ingest.wire with
  | .report =>
    .next { s with
      ingest := { s.ingest with wire := .idle }
      reports := { s.reports with queue := s.reports.queue.tail } }
  | .detached => .next { s with ingest := { s.ingest with wire := .idle } }
  | _ => .next s

end Sys2Proof.Machine
end

