-- ==== Sys2Proof/Machine/Directives.lean ====
section
/-! DEFINITION. The directive unit (chapter 11): how every directive is received, checked and
answered (R148, R149), and the directives of the part as a whole: SET LINK, QUERY PART, READ and
CLEAR FAULT LOG, and a directive frame whose code names no directive. -/

namespace Sys2Proof.Machine

/-- What taking a directive yields: the result and data of its reply, and the events it makes due at
once, which follow the reply (R148). -/
structure Answer where
  result : Result
  data : ReplyData
  events : List Event
  deriving DecidableEq, Repr

/-- A plain answer, with no data and no event. -/
def Answer.of (r : Result) : Answer :=
  { result := r, data := .none, events := [] }

/-- R148: a DONE reply with data. -/
def Answer.doneWith (d : ReplyData) : Answer :=
  { result := .done, data := d, events := [] }

/-- R149 step 2 and 3, and the reply of R148: a body of the wrong length is answered BAD_FIELD 255;
otherwise the directive's own rule answers. -/
def State.takeDirective (s : State) (code : Byte) (bodyLength : Nat)
    (act : List Byte → State → State × Answer) (f : DirectiveFrame) : State :=
  if f.payload.bytes.length ≠ bodyLength then s.reply f.tag code (.badField 255) .none
  else
    let (t, a) := act f.payload.bytes s
    (t.reply f.tag code a.result a.data).raiseAll a.events

/-- A directive frame: R135 and R136, then R148. -/
def runDirective (code : Byte) (bodyLength : Nat) (act : List Byte → State → State × Answer)
    (f : DirectiveFrame) (s : State) : Host.Outcome State Fault Refusal :=
  match s.beginReturn.admitDirective f with
  | .ended t => .next t
  | .admitted t => .next (t.takeDirective code bodyLength act f)

/-! ### UNKNOWN_DIRECTIVE -/

/-- R149 step 1: a code that names none of the eighteen directives is answered UNKNOWN. -/
def execUnknownDirective (code : Byte) (f : DirectiveFrame) (s : State) :
    Host.Outcome State Fault Refusal :=
  if 1 ≤ code.toNat ∧ code.toNat ≤ 0x12 then .next s
  else
    match s.beginReturn.admitDirective f with
    | .ended t => .next t
    | .admitted t => .next (t.reply f.tag code .unknown .none)

/-! ### SET LINK (R155, R156) -/

/-- R155 and R156: all four settings are replaced together. A new timeout may start the stall
timer (R130). -/
def takeSetLink (body : List Byte) (s : State) : State × Answer :=
  let l := readLinkSettings body
  match l.firstBad with
  | some n => (s, Answer.of (.badField n))
  | none => (State.startStall { s with settings := l }, Answer.of .done)

/-- SET_LINK. -/
def execSetLink (f : DirectiveFrame) (s : State) : Host.Outcome State Fault Refusal :=
  runDirective codeSetLink 8 takeSetLink f s

/-! ### QUERY PART (R154) -/

/-- R154: the part's status as it stands. -/
def State.partStatus (s : State) : PartStatus :=
  { part := s.hold.part
    ingestLink := s.ingest.link
    egressLink := s.egress.link
    stalled := s.egress.stalled
    matchFlags := s.matchFlags
    busyDecode := (s.decode.engines.toList.filter DecodeEngine.isBusy).length
    busyEncode := (s.encode.toList.filter EncodeEngine.isBusy).length
    settings := s.settings
    freeCount := s.pool.free.length
    reservedCount := s.pool.reserved.length
    decodeDepth := s.decode.queue.length
    jobDepth := s.jobs.length
    reservedBytes := s.egress.reservedBytes
    queuedBytes := s.egress.queuedBytes
    counters := s.ingest.counters }

/-- R154. -/
def takeQueryPart (_body : List Byte) (s : State) : State × Answer :=
  (s, Answer.doneWith (.part s.partStatus))

/-- QUERY_PART. -/
def execQueryPart (f : DirectiveFrame) (s : State) : Host.Outcome State Fault Refusal :=
  runDirective codeQueryPart 4 takeQueryPart f s

/-! ### The fault log (R102, R103) -/

/-- R102: the log as it stands. -/
def takeReadFaultLog (_body : List Byte) (s : State) : State × Answer :=
  (s, Answer.doneWith (.faults s.faults))

/-- READ_FAULT_LOG. -/
def execReadFaultLog (f : DirectiveFrame) (s : State) : Host.Outcome State Fault Refusal :=
  runDirective codeReadFaultLog 4 takeReadFaultLog f s

/-- R103: both records emptied and both counts 0. -/
def takeClearFaultLog (_body : List Byte) (s : State) : State × Answer :=
  ({ s with faults := FaultLog.empty }, Answer.of .done)

/-- CLEAR_FAULT_LOG. -/
def execClearFaultLog (f : DirectiveFrame) (s : State) : Host.Outcome State Fault Refusal :=
  runDirective codeClearFaultLog 4 takeClearFaultLog f s

end Sys2Proof.Machine
end

