-- ==== Sys2Proof/Machine/Tables.lean ====
section
/-! DEFINITION. The tables software loads: profiles (R21 to R27), course windows (R28 to R33) and
markers (R56 to R58), with their loads, reads and the window search of R29. -/

namespace Sys2Proof.Machine

/-! ### Profiles -/

/-- R26: some channel that is not CLOSED has this index as its profile index. -/
def State.profileInUse (s : State) (p : ProfileId) : Bool :=
  s.channels.toList.any (fun c => c.state != .closed && c.profile == p)

/-- R22: the order of LOAD PROFILE's checks. -/
def takeLoadProfile (body : List Byte) (s : State) : State × Answer :=
  match objectNumber 16 (bodyNat body 0 1) with
  | none => (s, Answer.of (.badField 0))
  | some p =>
    if s.profileInUse p then (s, Answer.of .inUse)
    else if !isFlag (bodyNat body 1 1) then (s, Answer.of (.badField 1))
    else
      let record := readProfileRecord body
      let stored : State := { s with profiles := s.profiles.set p record }
      if !record.valid then (stored, Answer.of .done)
      else match record.firstBad with
        | some n => (s, Answer.of (.badField n))
        | none => (stored, Answer.of .done)

/-- LOAD_PROFILE. -/
def execLoadProfile (f : DirectiveFrame) (s : State) : Host.Outcome State Fault Refusal :=
  runDirective codeLoadProfile 92 takeLoadProfile f s

/-- R27. -/
def takeReadProfile (body : List Byte) (s : State) : State × Answer :=
  match objectNumber 16 (bodyNat body 0 1) with
  | none => (s, Answer.of (.badField 0))
  | some p => (s, Answer.doneWith (.profile p s.profiles[p]))

/-- READ_PROFILE. -/
def execReadProfile (f : DirectiveFrame) (s : State) : Host.Outcome State Fault Refusal :=
  runDirective codeReadProfile 4 takeReadProfile f s

/-! ### Windows -/

/-- R29: a course number matches one of W1 to W6. -/
def Window.hits (w : Window) (course : BitVec 24) : Bool :=
  w.active && agreeOutside course w.value w.mask

/-- R29: the chosen window, the lowest-numbered match among W1 to W6, or W0. -/
def chosenWindow (windows : Vector Window 7) (course : BitVec 24) : Window :=
  match windows.toList.tail.find? (fun w => w.hits course) with
  | some w => w
  | none => windows[0]

/-- R31: the window stored. For W0 only the profile index and the class are. -/
def storedWindow (w : WindowId) (old : Window) (body : List Byte) : Window :=
  let new := readWindowRecord body
  if w = 0 then { old with profile := new.profile, cls := new.cls } else new

/-- R31. -/
def takeLoadWindow (body : List Byte) (s : State) : State × Answer :=
  match objectNumber 7 (bodyNat body 0 1) with
  | none => (s, Answer.of (.badField 0))
  | some w =>
    match windowBad (w == 0) body with
    | some n => (s, Answer.of (.badField n))
    | none =>
      ({ s with windows := s.windows.set w (storedWindow w s.windows[w] body) }, Answer.of .done)

/-- LOAD_WINDOW. -/
def execLoadWindow (f : DirectiveFrame) (s : State) : Host.Outcome State Fault Refusal :=
  runDirective codeLoadWindow 12 takeLoadWindow f s

/-- R33: a window as READ WINDOW shows it. W0 is shown active, with value 0 and a full mask. -/
def shownWindow (w : WindowId) (record : Window) : Window :=
  if w = 0 then { record with active := true, value := 0, mask := BitVec.allOnes 24 } else record

/-- R33. -/
def takeReadWindow (body : List Byte) (s : State) : State × Answer :=
  match objectNumber 7 (bodyNat body 0 1) with
  | none => (s, Answer.of (.badField 0))
  | some w => (s, Answer.doneWith (.window w (shownWindow w s.windows[w])))

/-- READ_WINDOW. -/
def execReadWindow (f : DirectiveFrame) (s : State) : Host.Outcome State Fault Refusal :=
  runDirective codeReadWindow 4 takeReadWindow f s

/-! ### Markers -/

/-- R56: the record is replaced whole. The match flag and every cut pending are left alone. -/
def takeLoadMarker (body : List Byte) (s : State) : State × Answer :=
  match objectNumber 4 (bodyNat body 0 1) with
  | none => (s, Answer.of (.badField 0))
  | some m =>
    match markerBad body with
    | some n => (s, Answer.of (.badField n))
    | none => ({ s with markers := s.markers.set m (readMarkerRecord body) }, Answer.of .done)

/-- LOAD_MARKER. -/
def execLoadMarker (f : DirectiveFrame) (s : State) : Host.Outcome State Fault Refusal :=
  runDirective codeLoadMarker 20 takeLoadMarker f s

/-- R57. -/
def takeReadMarker (body : List Byte) (s : State) : State × Answer :=
  match objectNumber 4 (bodyNat body 0 1) with
  | none => (s, Answer.of (.badField 0))
  | some m => (s, Answer.doneWith (.marker m s.markers[m]))

/-- READ_MARKER. -/
def execReadMarker (f : DirectiveFrame) (s : State) : Host.Outcome State Fault Refusal :=
  runDirective codeReadMarker 4 takeReadMarker f s

/-- R58: the match flags left after those of the markers named are cleared. -/
def clearedFlags (flags : Vector Bool 4) (named : Byte) : Vector Bool 4 :=
  Vector.ofFn (fun i => flags[i] && !named.getLsbD i.val)

/-- R58. -/
def takeClearMatch (body : List Byte) (s : State) : State × Answer :=
  ({ s with matchFlags := clearedFlags s.matchFlags (byteAt body 0) }, Answer.of .done)

/-- CLEAR_MATCH. -/
def execClearMatch (f : DirectiveFrame) (s : State) : Host.Outcome State Fault Refusal :=
  runDirective codeClearMatch 4 takeClearMatch f s

end Sys2Proof.Machine
end

