-- ==== Sys2Proof/Machine/Channels.lean ====
section
/-! DEFINITION. The channel table (chapter 1): OPEN, CLOSE, ABORT and QUERY CHANNEL, and the drain
and abort completions. -/

namespace Sys2Proof.Machine

/-! ### OPEN (R2 to R4, R30) -/

/-- R4: `n` slots taken from the head of the free list, in order. -/
def SlotPool.takeMany : Nat → SlotState → SlotPool → List SlotId × SlotPool
  | 0, _, p => ([], p)
  | n + 1, st, p =>
    match p.take st with
    | none => ([], p)
    | some (i, q) =>
      let (rest, r) := SlotPool.takeMany n st q
      (i :: rest, r)

/-- R30: the selected profile index. -/
def selectedProfile (override : ProfileChoice) (w : Window) : Option ProfileId :=
  match override with
  | .named p => some p
  | _ => w.profile

/-- R3: the context of a rendition at OPEN. -/
def RenditionContext.atOpen (spec : RenditionSpec) (reference : SlotId) : RenditionContext :=
  { reference := reference, referenceValid := false, fullness := spec.bufferSize / 2,
    skipPending := false, dims := none, lastQI := none, inFlight := false }

/-- R3: the channel record after OPEN. -/
def Channel.atOpen (course : BitVec 24) (p : ProfileId) (profile : Profile) (cls : Fin 4)
    (references : List SlotId) : Channel :=
  { Channel.cleared with
    state := .running
    course := course
    profile := p
    cls := cls
    lastDelta := profile.intervalHint
    contexts := List.zipWith RenditionContext.atOpen profile.renditions.toList references
    leveller := { gain := profile.initialGain, quietRun := 0 } }

/-- R3 and R4: the channel opens with the selected profile and the window's class. -/
def State.openWith (s : State) (ch : ChannelId) (course : BitVec 24) (p : ProfileId)
    (cls : Fin 4) : State :=
  let profile := s.profiles[p]
  let (references, pool) := s.pool.takeMany profile.count .reference
  { s with
    pool := pool
    channels := s.channels.set ch (Channel.atOpen course p profile cls references) }

/-- R2: the order of OPEN's checks. -/
def takeOpen (body : List Byte) (s : State) : State × Answer :=
  match objectNumber 32 (bodyNat body 0 1), readProfileChoice (bodyNat body 1 1) with
  | none, _ => (s, Answer.of (.badField 0))
  | some _, .bad => (s, Answer.of (.badField 2))
  | some ch, override =>
    if (s.channel ch).state != .closed then (s, Answer.of .state)
    else
      let course := BitVec.ofNat 24 (bodyNat body 2 3)
      let w := chosenWindow s.windows course
      match selectedProfile override w with
      | none => (s, Answer.of .noProfile)
      | some p =>
        if !s.profiles[p].valid then (s, Answer.of .noProfile)
        else if s.pool.free.length < s.profiles[p].count + Config.engineReserve then
          (s, Answer.of .noSlots)
        else (s.openWith ch course p w.cls, Answer.of .done)

/-- OPEN. -/
def execOpen (f : DirectiveFrame) (s : State) : Host.Outcome State Fault Refusal :=
  runDirective codeOpen 8 takeOpen f s

/-! ### CLOSE (R8, R9) -/

/-- R8 and R9. -/
def takeClose (body : List Byte) (s : State) : State × Answer :=
  match objectNumber 32 (bodyNat body 0 1) with
  | none => (s, Answer.of (.badField 0))
  | some ch =>
    match (s.channel ch).state with
    | .closed => (s, Answer.of .notOpen)
    | .draining | .aborting => (s, Answer.of .state)
    | .running =>
      ((s.modChannel ch (fun c => { c with state := .draining })).discardPartial ch,
        Answer.of .done)

/-- CLOSE. -/
def execClose (f : DirectiveFrame) (s : State) : Host.Outcome State Fault Refusal :=
  runDirective codeClose 4 takeClose f s

/-! ### Drain and abort completion (R12, R15) -/

/-- R12 and R15: the END record, and its event. -/
def Channel.endRecord (c : Channel) (ch : ChannelId) (outcome : ChannelOutcome) : EndRecord :=
  { channel := ch, outcome := outcome, segments := c.counters.segmentsEmitted,
    pictures := c.pictureNumber, course := c.course, profile := c.profile }

/-- R12 step 3 and R59: the record of a channel that becomes CLOSED keeps its course number, profile
index, class, counters and picture number (assumption 9, DESIGN CHOICE, for the leveller and the
audio bytes). -/
def Channel.closed (c : Channel) : Channel :=
  { c with state := .closed, cutPending := none, segments := [], preSegmentAudio := 0,
           contexts := [], leveller := { gain := 0, quietRun := 0 } }

/-- R12 and R15 steps 1 to 3: the END record is enqueued, the reference slots are freed in rendition
order and the channel becomes CLOSED. Step 4's event is the caller's to raise. -/
def State.endChannel (s : State) (ch : ChannelId) (outcome : ChannelOutcome) : State :=
  let c := s.channel ch
  let t := s.enqueue (.ended (c.endRecord ch outcome))
  { t with
    pool := t.pool.releaseAll (c.contexts.map (fun x => x.reference))
    channels := t.channels.set ch c.closed }

/-- R12 step 4 and R15 step 4. -/
def Channel.closedEvent (c : Channel) (ch : ChannelId) (outcome : ChannelOutcome) : Event :=
  .channelClosed ch outcome c.counters.segmentsEmitted c.pictureNumber

/-- R12: a DRAINING channel has nothing left. -/
def State.drained (s : State) (ch : ChannelId) : Bool :=
  (s.channel ch).state == .draining
    && (s.channel ch).segments.isEmpty
    && s.jobs.all (fun j => j.channel != ch)
    && s.inputsDone ch

/-- R15: an ABORTING channel has nothing in flight. -/
def Channel.abortDone (c : Channel) : Bool :=
  c.state == .aborting && !c.decodeInFlight && c.contexts.all (fun x => !x.inFlight)

/-- R15: the abort completion, when it can take place, with the event that it makes due. -/
def State.finishAbort (s : State) (ch : ChannelId) : State × List Event :=
  if (s.channel ch).abortDone && decide (Config.recordBytes ≤ s.egress.room) then
    (s.endChannel ch .aborted, [(s.channel ch).closedEvent ch .aborted])
  else (s, [])

/-- DRAIN_COMPLETION, R12. -/
def execDrainCompletion (ch : ChannelId) (s : State) : Host.Outcome State Fault Refusal :=
  let s := s.beginReturn
  if s.drained ch && decide (Config.recordBytes ≤ s.egress.room) then
    .next ((s.endChannel ch .completed).raise ((s.channel ch).closedEvent ch .completed))
  else .next s

/-- ABORT_COMPLETION, R15. -/
def execAbortCompletion (ch : ChannelId) (s : State) : Host.Outcome State Fault Refusal :=
  let s := s.beginReturn
  .next ((s.finishAbort ch).1.raiseAll (s.finishAbort ch).2)

/-! ### ABORT (R13, R86, R111) -/

/-- R13: the channel's entries leave the decode queue and their slots are freed in queue order. -/
def State.abortQueue (s : State) (ch : ChannelId) : State :=
  { s with
    pool := s.pool.releaseAll
      ((s.decode.queue.filter (fun e => e.channel == ch)).map (fun e => e.slot))
    decode := { s.decode with queue := s.decode.queue.filter (fun e => e.channel != ch) } }

/-- R13 and R111: what ABORT does to one decode engine. A held picture of the channel is released; a
DECODING one is marked abandoned. -/
def State.abortDecodeEngine (ch : ChannelId) (s : State) (e : DecodeEngineId) : State :=
  match s.decode.engines[e] with
  | .idle => s
  | .decoding entry _ =>
    if entry.channel == ch then
      { s with decode := { s.decode with engines := s.decode.engines.set e (.decoding entry true) } }
    else s
  | .holding pic =>
    if pic.channel == ch then
      let t : State := match pic.source with
        | none => s
        | some src => s.releaseSlot src.slot
      let u := t.clearDecode ch
      { u with decode := { u.decode with
        engines := u.decode.engines.set e .idle
        held := u.decode.held.filter (fun x => x != e) } }
    else s

/-- R13 and R96: the source slots of the QUEUED engine jobs that ABORT removes, in queue order. A
skip job has no part in a reference count (assumption 4, DEDUCED). -/
def removedSources (jobs : List Job) (ch : ChannelId) : List SlotId :=
  (jobs.filter (fun j => j.channel == ch && j.isQueued && !j.skip)).filterMap
    (fun j => j.source.map (fun p => p.slot))

/-- R13 and R86: what ABORT leaves of a job of the channel: a RUNNING one, marked abandoned. -/
def Job.afterAbort (j : Job) (ch : ChannelId) : Option Job :=
  if j.channel == ch then
    match j.state with
    | .queued => none
    | .running record _ => some { j with state := .running record true }
  else some j

/-- R13 and R86: ABORT on the job queue. -/
def State.abortJobs (s : State) (ch : ChannelId) : State :=
  { s with
    pool := (removedSources s.jobs ch).foldl SlotPool.dropSource s.pool
    jobs := s.jobs.filterMap (fun j => j.afterAbort ch) }

/-- R13: the whole effect of ABORT on a RUNNING or DRAINING channel, slots freed in the order of its
table. The egress queue is left as it is. -/
def State.abortWork (s : State) (ch : ChannelId) : State :=
  let s1 := s.modChannel ch (fun c => { c with state := .aborting })
  let s2 := s1.discardPartial ch
  let s3 := s2.abortQueue ch
  let s4 := (List.finRange 2).foldl (State.abortDecodeEngine ch) s3
  let s5 := s4.abortJobs ch
  let s6 := s5.modChannel ch (fun c =>
    { c with segments := [], cutPending := none, preSegmentAudio := 0 })
  { s6 with small := s6.small.filter (fun u => u.channel != ch) }

/-- R13, with the abort completion that follows at once when nothing is in flight (R15). -/
def takeAbort (body : List Byte) (s : State) : State × Answer :=
  match objectNumber 32 (bodyNat body 0 1) with
  | none => (s, Answer.of (.badField 0))
  | some ch =>
    match (s.channel ch).state with
    | .closed => (s, Answer.of .notOpen)
    | .aborting => (s, Answer.of .state)
    | .running | .draining =>
      let (t, events) := (s.abortWork ch).finishAbort ch
      (t, { result := .done, data := .none, events := events })

/-- ABORT. -/
def execAbort (f : DirectiveFrame) (s : State) : Host.Outcome State Fault Refusal :=
  runDirective codeAbort 4 takeAbort f s

/-! ### QUERY CHANNEL (R17) -/

/-- R17: what QUERY CHANNEL shows of a record. A CLOSED channel has no contexts and no entries. -/
def Channel.status (c : Channel) : ChannelStatus :=
  { state := c.state
    cls := c.cls
    depth := c.segments.length
    counters := c.counters
    renditions := (List.range 4).map (fun r =>
      (c.contexts[r]?).map (fun x => (x.fullness, x.lastQI)))
    profile := c.profile
    course := c.course }

/-- R17. -/
def takeQueryChannel (body : List Byte) (s : State) : State × Answer :=
  match objectNumber 32 (bodyNat body 0 1) with
  | none => (s, Answer.of (.badField 0))
  | some ch => (s, Answer.doneWith (.channel (s.channel ch).status))

/-- QUERY_CHANNEL. -/
def execQueryChannel (f : DirectiveFrame) (s : State) : Host.Outcome State Fault Refusal :=
  runDirective codeQueryChannel 4 takeQueryChannel f s

end Sys2Proof.Machine
end

