-- ==== Sys2Proof/Machine/Decoding.lean ====
section
/-! DEFINITION. The decode queue and the decode engines (chapter 7): dispatch, the mezzanine header,
and the completion of a decode. -/

namespace Sys2Proof.Machine

/-! ### The mezzanine header (R108, R168) -/

/-- R168: the width of a mezzanine picture. -/
def mezzanineWidth (bytes : List Byte) : Nat :=
  beNat (field bytes 0 2)

/-- R168: the height. -/
def mezzanineHeight (bytes : List Byte) : Nat :=
  beNat (field bytes 2 2)

/-- R168: the coded length. -/
def mezzanineLength (bytes : List Byte) : Nat :=
  beNat (field bytes 4 4)

/-- R108: the header of the bytes a unit held passes. -/
def mezzaninePasses (bytes : List Byte) : Bool :=
  decide (16 ≤ bytes.length)
    && decide (160 ≤ mezzanineWidth bytes) && decide (mezzanineWidth bytes ≤ 1920)
    && decide (96 ≤ mezzanineHeight bytes) && decide (mezzanineHeight bytes ≤ 1080)
    && decide (1 ≤ mezzanineLength bytes)
    && decide (mezzanineLength bytes ≤ bytes.length - 16)

/-- R108: the decode of the bytes ends OK. `decodable` is the engine's own finding on the coded
data; it plays no part when the header fails. -/
def decodeOk (bytes : List Byte) (o : ReadOutcome) (decodable : Bool) : Bool :=
  o != .uncorrectable && mezzaninePasses bytes && decodable

/-! ### Dispatch (R107) -/

/-- R107: the IDLE decode engine with the lowest number. -/
def State.idleDecodeEngine (s : State) : Option DecodeEngineId :=
  (List.finRange 2).find? (fun e => s.decode.engines[e] == .idle)

/-- R107: an entry whose channel has no decode in flight. -/
def State.decodeReady (s : State) (e : DecodeEntry) : Bool :=
  !(s.channel e.channel).decodeInFlight

/-- R107: a picture is started on an engine. -/
def State.startDecode (s : State) (engine : DecodeEngineId) (entry : DecodeEntry) : State :=
  let t := (s.markSlot entry.slot .decoding).modChannel entry.channel
    (fun c => { c with decodeInFlight := true })
  { t with decode := { t.decode with
      queue := t.decode.queue.eraseP s.decodeReady
      engines := t.decode.engines.set engine (.decoding entry false) } }

/-- DECODE_DISPATCH, R107. -/
def execDecodeDispatch (s : State) : Host.Outcome State Fault Refusal :=
  let s := s.beginReturn
  match s.hold.part, s.idleDecodeEngine, s.decode.queue.find? s.decodeReady with
  | .running, some engine, some entry => .next (s.startDecode engine entry)
  | _, _, _ => .next s

/-! ### Completion (R108 to R111) -/

/-- R106: a decode engine rewritten. -/
def State.setDecodeEngine (s : State) (e : DecodeEngineId) (st : DecodeEngine) : State :=
  { s with decode := { s.decode with engines := s.decode.engines.set e st } }

/-- R97 and R108: the fault record of a DECODE_READ. -/
def DecodeEntry.faultRecord (d : DecodeEntry) : FaultRecord :=
  { source := .decodeRead, channel := d.channel, rendition := none, slot := some d.slot }

/-- R111 and R14: the completion of a decode whose channel is being aborted. -/
def State.abandonDecode (s : State) (e : DecodeEngineId) (d : DecodeEntry) : State :=
  ((s.releaseSlot d.slot).clearDecode d.channel).setDecodeEngine e .idle

/-- R109: the picture a decode hands over. -/
def DecodeEntry.picture (d : DecodeEntry) (bytes : List Byte) (good : Bool) : DecodedPicture :=
  { channel := d.channel, time := d.time, delta := d.delta, flags := d.flags
    source := if good then
        some { slot := d.slot, width := mezzanineWidth bytes, height := mezzanineHeight bytes }
      else none }

/-- R109: a FAILED decode frees its slot at once and counts a concealed picture. -/
def State.conceal (s : State) (d : DecodeEntry) : State :=
  (s.releaseSlot d.slot).count d.channel ChannelCounters.concealed

/-- R110: the engine keeps the picture, and a good picture's slot enters HOLDING. -/
def State.holdPicture (s : State) (e : DecodeEngineId) (pic : DecodedPicture) : State :=
  let t : State := match pic.source with
    | none => s
    | some src => s.markSlot src.slot .holding
  let u := t.setDecodeEngine e (.holding pic)
  { u with decode := { u.decode with held := u.decode.held ++ [e] } }

/-- R37 and R109: the picture is dropped, taken or held. -/
def State.handOver (s : State) (e : DecodeEngineId) (pic : DecodedPicture) : State :=
  if pic.source.isNone && !(s.channel pic.channel).firstGood then
    ((s.dropConcealed pic).clearDecode pic.channel).setDecodeEngine e .idle
  else if s.jobRoomFor pic.channel then
    ((s.takePicture pic).clearDecode pic.channel).setDecodeEngine e .idle
  else s.holdPicture e pic

/-- R109: the completion of a decode on a RUNNING or DRAINING channel. -/
def State.finishDecode (s : State) (e : DecodeEngineId) (d : DecodeEntry) (good : Bool) : State :=
  let pic := d.picture s.pool.slots[d.slot].compressed good
  if good then s.handOver e pic else (s.conceal d).handOver e pic

/-- R95 and R108: what the engine has written into the slot's picture area by the end of the decode:
the picture at the header's width and height, free bytes when the decode failed after its header
passed (assumption 29), and nothing when the header failed. -/
def State.drawDecoded (s : State) (d : DecodeEntry) (good : Bool) : State :=
  let bytes := s.pool.slots[d.slot].compressed
  if mezzaninePasses bytes then
    { s with
      pool := s.pool.draw d.slot
        (if good then .decoded s.freeSerial (mezzanineWidth bytes) (mezzanineHeight bytes)
          else .unfinished s.freeSerial d.slot)
      freeSerial := s.freeSerial + 1 }
  else s

/-- DECODE_COMPLETION, R108 to R111: the read is reported and the picture area written first,
whatever became of the channel; then the picture is handed over or freed, and a pending hold may be
decided (R159). -/
def execDecodeCompletion (e : DecodeEngineId) (o : ReadOutcome) (decodable : Bool) (s : State) :
    Host.Outcome State Fault Refusal :=
  let s := s.beginReturn
  match s.decode.engines[e] with
  | .decoding d abandoned =>
    let good := decodeOk s.pool.slots[d.slot].compressed o decodable
    let t := (s.reportRead o d.faultRecord).drawDecoded d good
    if (t.channel d.channel).isLive && !abandoned then .next (t.finishDecode e d good).settleHold
    else .next (t.abandonDecode e d).settleHold
  | _ => .next s

end Sys2Proof.Machine
end

