-- ==== Sys2Proof/Machine/Egress.lean ====
section
/-! DEFINITION. The egress port (sections 9.3 to 9.5): reading the head entry, beginning and sending
its frames, credits, the stall timer's expiry, and the loss and return of the link. -/

namespace Sys2Proof.Machine

/-- R97 and R125: the fault record of an EGRESS_READ. -/
def EgressEntry.faultRecord (e : EgressEntry) : FaultRecord :=
  { source := .egressRead, channel := e.channel, rendition := e.rendition, slot := none }

/-- R127: the link, the credits and the part state let a frame be begun. -/
def State.maySend (s : State) : Bool :=
  s.egress.link == .up && s.egress.wire == .idle && s.hold.part != .held
    && decide (1 ≤ s.egress.credits)

/-- The head is to be read, and the read's state of the frames begun: a new head is read in any part
state and on a link UP or DOWN (R125), a rewound one when sending resumes (R132), that is, when a frame could be begun (assumption 8,
DEDUCED). -/
def State.headToRead (s : State) : Option Bool :=
  match s.egress.head with
  | .unread => some false
  | .rewound => if s.maySend then some true else none
  | .read _ _ _ _ => none

/-- R125: the mark of an entry whose read has this outcome: damaged, with the serial number of the
bytes read, only when it is uncorrectable. -/
def damageOf (o : ReadOutcome) (serial : Nat) : Option Nat :=
  match o with
  | .uncorrectable => some serial
  | _ => none

/-- EGRESS_READ, R125 and R132: the whole read of the head entry ends and is reported. -/
def execEgressRead (o : ReadOutcome) (s : State) : Host.Outcome State Fault Refusal :=
  let s := s.beginReturn
  match s.egress.queue, s.headToRead with
  | e :: _, some begun =>
    let t := s.reportRead o e.faultRecord
    .next (State.startStall { t with
      egress := { t.egress with head := .read (damageOf o t.freeSerial) begun none 0 }
      freeSerial := t.freeSerial + 1 })
  | _, _ => .next s

/-- R126: the payload size an entry is cut at: the one of its first frame, or the setting. -/
def cutAt (cut : Option Nat) (setting : Nat) : Nat :=
  cut.getD setting

/-- EGRESS_FRAME_BEGIN, R127: the next ready frame is begun and takes one credit. -/
def execEgressFrameBegin (s : State) : Host.Outcome State Fault Refusal :=
  let s := s.beginReturn
  match s.egress.queue, s.egress.head with
  | _ :: _, .read d _ cut n =>
    if s.maySend then
      .next { s with egress := { s.egress with
        wire := .frame
        credits := s.egress.credits - 1
        head := .read d true (some (cutAt cut s.settings.egressPayload)) n } }
    else .next s
  | _, _ => .next s

/-- R128: the last frame of the head entry has been sent: the entry leaves and the next becomes the
head. -/
def EgressPort.finishHead (p : EgressPort) (e : EgressEntry) : EgressPort :=
  { p with queue := p.queue.tail, queuedBytes := p.queuedBytes - e.size, head := .unread,
           wire := .idle }

/-- EGRESS_FRAME_SENT, R127, R128 and R133. Under EGRESS_EMPTY an entry's leaving may decide a
pending hold (R159). -/
def execEgressFrameSent (s : State) : Host.Outcome State Fault Refusal :=
  let s := s.beginReturn
  match s.egress.wire, s.egress.queue, s.egress.head with
  | .detached, _, _ => .next (State.startStall { s with egress := { s.egress with wire := .idle } })
  | .frame, e :: _, .read d begun (some p) n =>
    if frameCount e.size p ≤ n + 1 then
      .next (State.startStall { s with egress := s.egress.finishHead e }.settleHold)
    else
      .next (State.startStall { s with egress := { s.egress with
        wire := .idle, head := .read d begun (some p) (n + 1) } })
  | _, _, _ => .next s

/-- EGRESS_CREDIT, R129 and R164: an increment of 1 or more is added, saturating at 255; it stops
the stall timer and clears stalled. Any other frame is discarded. -/
def execEgressCredit (f : RawFrame) (s : State) : Host.Outcome State Fault Refusal :=
  let s := s.beginReturn
  if s.egress.link == .up && egressCreditPasses f && decide (1 ≤ egressIncrement f) then
    .next { s with egress := { s.egress with
      credits := min Config.maxEgressCredits (s.egress.credits + egressIncrement f)
      stallTimer := none
      stalled := false } }
  else .next s

/-- STALL_TIMER_EXPIRY, R130. -/
def execStallTimerExpiry (s : State) : Host.Outcome State Fault Refusal :=
  let s := s.beginReturn
  if s.egress.stallTimer.isSome then
    .next (State.raise
      { s with egress := { s.egress with stallTimer := none, stalled := true } }
      (.egressStall s.egress.queuedBytes s.egress.link))
  else .next s

/-- EGRESS_LINK_UP, R132. -/
def execEgressLinkUp (s : State) : Host.Outcome State Fault Refusal :=
  let s := s.beginReturn
  .next { s with egress := { s.egress with link := .up } }

/-- R132: the head entry is rewound when any frame of it has been begun, on this link or before an
earlier loss of it. -/
def HeadState.rewind : HeadState → HeadState
  | .read _ true _ _ => .rewound
  | h => h

/-- EGRESS_LINK_DOWN, R132. A link that is DOWN already is left as it is. -/
def execEgressLinkDown (s : State) : Host.Outcome State Fault Refusal :=
  let s := s.beginReturn
  if s.egress.link == .down then .next s
  else
    .next (State.startStall { s with egress := { s.egress with
      link := .down, credits := 0, wire := .idle, head := s.egress.head.rewind } })

end Sys2Proof.Machine
end

