-- ==== Sys2Proof/Machine/Hold.lean ====
section
/-! DEFINITION. Hold control (chapter 12): HOLD, RELEASE and the idle timer's expiry, RESTART, and
power-on reset. -/

namespace Sys2Proof.Machine

/-! ### HOLD (R158, R159) -/

/-- R158: some channel is DRAINING or ABORTING. -/
def State.channelClosing (s : State) : Bool :=
  s.channels.toList.any (fun c => c.state == .draining || c.state == .aborting)

/-- R158: the part enters HOLD_PENDING with the timer started, and the idle condition is tested at
once. -/
def State.enterHold (s : State) (wait : Nat) (egressEmpty : Bool) : State × List Event :=
  let t : State := { s with
    hold := { part := .holdPending, idleTimer := some wait, egressEmpty := egressEmpty } }
  if t.idleReached then t.decideHold
  else if wait = 0 then (t.resume, [.holdResult (.rejected .timeout)])
  else (t, [])

/-- R158: the order of HOLD's checks. -/
def takeHold (body : List Byte) (s : State) : State × Answer :=
  match holdBad body with
  | some n => (s, Answer.of (.badField n))
  | none =>
    if s.hold.part != .running then (s, Answer.of .state)
    else if bodyNat body 3 1 == 1 && s.channelClosing then
      (s, { result := .done, data := .none, events := [.holdResult (.rejected .channelClosing)] })
    else
      let (t, events) := s.enterHold (bodyNat body 0 2) (bodyNat body 2 1 == 1)
      (t, { result := .done, data := .none, events := events })

/-- HOLD. -/
def execHold (f : DirectiveFrame) (s : State) : Host.Outcome State Fault Refusal :=
  runDirective codeHold 4 takeHold f s

/-! ### RELEASE (R161) -/

/-- R161. -/
def takeRelease (_body : List Byte) (s : State) : State × Answer :=
  match s.hold.part with
  | .running => (s, Answer.of .state)
  | .holdPending =>
    (s.resume, { result := .done, data := .none, events := [.holdResult (.rejected .released)] })
  | .held => (s.resume, Answer.of .done)

/-- RELEASE. -/
def execRelease (f : DirectiveFrame) (s : State) : Host.Outcome State Fault Refusal :=
  runDirective codeRelease 4 takeRelease f s

/-! ### IDLE_TIMER_EXPIRY (R159) -/

/-- IDLE_TIMER_EXPIRY: the hold is rejected with TIMEOUT. -/
def execIdleTimerExpiry (s : State) : Host.Outcome State Fault Refusal :=
  let s := s.beginReturn
  if s.hold.part == .holdPending && s.hold.idleTimer.isSome then
    .next (s.resume.raise (.holdResult (.rejected .timeout)))
  else .next s

/-! ### RESTART (R162) -/

/-- R133: RESTART on the egress port. A frame being sent goes to its end. -/
def EgressPort.restart (p : EgressPort) : EgressPort :=
  { p with
    reservedBytes := 0, queuedBytes := 0, queue := [], head := .unread
    wire := match p.wire with
      | .frame => .detached
      | w => w
    stalled := false, stallTimer := none }

/-- R147 and R162: RESTART on the ingest port. Credits are void, waiting CREDIT frames discarded,
the counters 0, a REPORT frame being sent goes to its end, and on an UP link a reset frame
follows. -/
def IngestPort.restart (p : IngestPort) : IngestPort :=
  let q : IngestPort := { p with
    smallOutstanding := 0, directiveUnspent := 0, counters := FrameCounters.zero
    wire := match p.wire with
      | .report => .detached
      | w => w }
  if p.link == .up then q.queueReset else { q with creditQueue := [] }

/-- R151 and R162: the reports that RESTART discards. One being sent counts as sent. -/
def State.discardedReports (s : State) : List Report :=
  if s.ingest.wire == .report then s.reports.queue.tail else s.reports.queue

/-- R162: the whole effect of RESTART, but for its reply. -/
def State.restart (s : State) : State :=
  { s with
    hold := { part := .running, idleTimer := none, egressEmpty := false }
    matchFlags := Vector.replicate 4 false
    channels := Vector.replicate 32 Channel.cleared
    pool := s.pool.cleared s.freeSerial
    decode := DecodeUnit.idle
    jobs := []
    encode := Vector.replicate 6 .idle
    small := []
    egress := s.egress.restart
    ingest := s.ingest.restart
    reports := { queue := []
                 lostPending := s.reports.lostPending || !s.discardedReports.isEmpty }
    freeSerial := s.freeSerial + 1 }

/-- R162. -/
def takeRestart (_body : List Byte) (s : State) : State × Answer :=
  (s.restart, Answer.of .done)

/-- RESTART. -/
def execRestart (f : DirectiveFrame) (s : State) : Host.Outcome State Fault Refusal :=
  runDirective codeRestart 4 takeRestart f s

/-! ### POWER_ON_RESET (R163) -/

/-- POWER_ON_RESET, R163: the state after reset. The slots' areas are not cleared (R89); the commands
that wait are the model's own and stay, and the serial of free values goes on. -/
def execPowerOnReset (s : State) : Host.Outcome State Fault Refusal :=
  .next { State.reset with
    pool := s.pool.cleared s.freeSerial, freeSerial := s.freeSerial + 1, pending := s.pending }

end Sys2Proof.Machine
end

