-- ==== Sys2Proof/Machine/Jobs.lean ====
section
/-! DEFINITION. The job queue, the dispatcher and the encode engines (chapter 5): eligibility,
selection, the start of an engine job, skip completions, engine reads and engine completions. -/

namespace Sys2Proof.Machine

/-! ### Eligibility and selection (R76, R77) -/

/-- Two jobs of one rendition of one channel. -/
def Job.sameRendition (j k : Job) : Bool :=
  j.channel == k.channel && j.rendition == k.rendition

/-- R76, but for the part state: the job at index `i` is QUEUED, the oldest QUEUED job of its
rendition, and no job of its rendition is RUNNING. -/
def eligibleAt (jobs : List Job) (i : Nat) : Bool :=
  match jobs[i]? with
  | none => false
  | some j =>
    j.isQueued
      && (jobs.take i).all (fun k => !(k.sameRendition j && k.isQueued))
      && jobs.all (fun k => !(k.sameRendition j && k.isRunning))

/-- R77: of two candidates, the older one stays unless the later has a higher class. -/
def preferJob (jobs : List Job) (best : Option Nat) (i : Nat) : Option Nat :=
  match best, jobs[i]? with
  | none, some _ => some i
  | some b, some j =>
    match jobs[b]? with
    | some k => if k.cls < j.cls then some i else some b
    | none => some b
  | _, none => best

/-- R77: the eligible engine jobs' indices in queue order. -/
def engineCandidates (jobs : List Job) : List Nat :=
  (List.range jobs.length).filter (fun i =>
    eligibleAt jobs i && (match jobs[i]? with
      | some j => !j.skip
      | none => false))

/-- R77: the index of the selected job, of the highest class and then the oldest. -/
def selectJob (jobs : List Job) : Option Nat :=
  (engineCandidates jobs).foldl (preferJob jobs) none

/-- R77: the idle encode engine with the lowest number. -/
def State.idleEncodeEngine (s : State) : Option EncodeEngineId :=
  (List.finRange 6).find? (fun e => s.encode[e] == .idle)

/-! ### ENGINE_DISPATCH (R78, R79) -/

/-- The profile's fields of a job's rendition. -/
def State.renditionSpec (s : State) (ch : ChannelId) (r : Nat) : RenditionSpec :=
  ((s.profileOf ch).renditions[r]?).getD RenditionSpec.zero

/-- R79 steps 2 to 5: the dispatch record of a job started on an engine with a recon slot. -/
def dispatchRecord (spec : RenditionSpec) (ctx : RenditionContext) (j : Job) (src : SourcePicture)
    (engine : EncodeEngineId) (recon : SlotId) : DispatchRecord :=
  let dims := spec.outputDims src.width src.height
  let key := dispatchKey j.keyRequired ctx dims
  { engine := engine, qi := spec.qualityIndex ctx.fullness key, cap := spec.capBytes,
    recon := recon, width := dims.1, height := dims.2, key := key }

/-- R79 and R78: the job at index `i` becomes RUNNING, its cap reserved. -/
def State.startJob (s : State) (i : Nat) (j : Job) (record : DispatchRecord) (pool : SlotPool) :
    State :=
  let t := s.modChannel j.channel (fun c => c.modContext j.rendition (fun x =>
    { x with lastQI := some record.qi, inFlight := true }))
  { t with
    pool := pool
    jobs := t.jobs.set i { j with state := .running record false }
    encode := t.encode.set record.engine (.busy none none)
    egress := { t.egress with reservedBytes := t.egress.reservedBytes + record.cap } }

/-- ENGINE_DISPATCH, R77 to R79. Nothing starts while the part is not RUNNING, no engine is idle, no
engine job is eligible, or the selected job's cap does not fit. -/
def execEngineDispatch (s : State) : Host.Outcome State Fault Refusal :=
  let s := s.beginReturn
  match s.hold.part, s.idleEncodeEngine, selectJob s.jobs with
  | .running, some engine, some i =>
    match s.jobs[i]? with
    | none => .next s
    | some j =>
      let spec := s.renditionSpec j.channel j.rendition
      match j.source, (s.channel j.channel).contexts[j.rendition]? with
      | some src, some ctx =>
        if s.egress.room < spec.capBytes then .next s
        else
          match s.pool.take .recon with
          | none => .fault .noFreeSlot
          | some (recon, pool) =>
            .next (s.startJob i j (dispatchRecord spec ctx j src engine recon) pool)
      | _, _ => .next s
  | _, _, _ => .next s

/-! ### SKIP_COMPLETION (R80, R71) -/

/-- R124: what the unit of a job carries. -/
def Job.tag (j : Job) (key : Bool) : UnitTag :=
  { channel := j.channel, rendition := j.rendition, segment := j.segment, time := j.time,
    key := key }

/-- R80: the index of the eligible job of a rendition. -/
def eligibleOf (jobs : List Job) (ch : ChannelId) (r : Nat) : Option Nat :=
  (List.range jobs.length).find? (fun i =>
    eligibleAt jobs i && (match jobs[i]? with
      | some j => j.channel == ch && j.rendition == r
      | none => false))

/-- R80: the skip job at index `i` is completed. -/
def State.completeSkip (s : State) (i : Nat) (j : Job) : State :=
  let spec := s.renditionSpec j.channel j.rendition
  let t := s.modChannel j.channel (fun c =>
    (c.skipCompleted spec j.rendition j.delta j.isGood).completeInSegment j.segment j.rendition
      Config.skipUnitBytes)
  let u := t.enqueue (.skip (j.tag false))
  { u with jobs := u.jobs.eraseIdx i }

/-- SKIP_COMPLETION, R80. -/
def execSkipCompletion (ch : ChannelId) (r : Fin 4) (s : State) :
    Host.Outcome State Fault Refusal :=
  let s := s.beginReturn
  match s.hold.part, eligibleOf s.jobs ch r.val with
  | .running, some i =>
    match s.jobs[i]? with
    | some j =>
      if j.skip && decide (Config.skipUnitBytes ≤ s.egress.room) then .next (s.completeSkip i j)
      else .next s
    | none => .next s
  | _, _ => .next s

/-! ### Engine reads (R82, R97) -/

/-- The job that runs on an engine, with its place in the queue and its dispatch record. -/
def runningOn (jobs : List Job) (e : EncodeEngineId) : Option (Nat × Job × DispatchRecord × Bool) :=
  (jobs.zipIdx.filterMap (fun x =>
    match x.1.state with
    | .running record abandoned =>
      if record.engine == e then some (x.2, x.1, record, abandoned) else none
    | .queued => none)).head?

/-- R97: the fault record of an engine's read. The reference is the rendition's reference slot. -/
def State.engineFaultRecord (s : State) (j : Job) (r : EngineRead) : FaultRecord :=
  match r with
  | .source =>
    { source := .encodeSource, channel := j.channel, rendition := some j.rendition,
      slot := j.source.map (fun p => p.slot) }
  | .reference =>
    { source := .encodeReference, channel := j.channel, rendition := some j.rendition,
      slot := ((s.channel j.channel).contexts[j.rendition]?).map (fun x => x.reference) }

/-- R97: the engine's record of its reads once this one has ended; none when the job makes no such
read, or has made it. -/
def nextReads (key : Bool) (sourceRead referenceRead : Option ReadOutcome) (r : EngineRead)
    (o : ReadOutcome) : Option EncodeEngine :=
  match r with
  | .source => if sourceRead.isSome then none else some (.busy (some o) referenceRead)
  | .reference =>
    if referenceRead.isSome || key then none else some (.busy sourceRead (some o))

/-- ENCODE_ENGINE_READ, R82 and R97. An abandoned job's reads are reported as any others. -/
def execEncodeEngineRead (e : EncodeEngineId) (r : EngineRead) (o : ReadOutcome) (s : State) :
    Host.Outcome State Fault Refusal :=
  let s := s.beginReturn
  match s.encode[e], runningOn s.jobs e with
  | .busy sourceRead referenceRead, some (_, j, record, _) =>
    match nextReads record.key sourceRead referenceRead r o with
    | none => .next s
    | some engine =>
      let t := s.reportRead o (s.engineFaultRecord j r)
      .next { t with encode := t.encode.set e engine }
  | _, _ => .next s

/-! ### ENCODE_COMPLETION (R67, R83 to R85) -/

/-- R67 and R82: a report that the engine of this job, with these reads, can deliver. -/
def reportPossible (record : DispatchRecord) (sourceRead referenceRead : Option ReadOutcome)
    (r : CompletionReport) : Bool :=
  decide (16 ≤ r.size) && decide (r.size ≤ record.cap)
    && r.sourceDamaged == (sourceRead == some .uncorrectable)
    && r.referenceDamaged == (referenceRead == some .uncorrectable)
    && (if r.sourceDamaged then r.size == 16 && !r.key && !r.capped
        else r.key == (record.key || r.referenceDamaged))

/-- R69: the context after a completion without source damage. -/
def RenditionContext.replaceReference (x : RenditionContext) (record : DispatchRecord) :
    RenditionContext :=
  { x with reference := record.recon, referenceValid := true,
           dims := some (record.width, record.height) }

/-- R84 step 2 and R69: the slots. The recon slot becomes the reference and the old reference is
freed; with source damage the recon slot is freed. -/
def SlotPool.swapReference (p : SlotPool) (old : SlotId) (record : DispatchRecord)
    (sourceDamaged : Bool) : SlotPool :=
  if sourceDamaged then p.release record.recon
  else (p.mark record.recon .reference).release old

/-- R84 step 3 and R85 step 4: the source slot's count falls by 1. -/
def SlotPool.dropJobSource (p : SlotPool) (j : Job) : SlotPool :=
  match j.source with
  | none => p
  | some src => p.dropSource src.slot

/-- R84 steps 1 and 2: counters, fullness, reference and dimensions of the channel record. -/
def Channel.engineCompleted (c : Channel) (spec : RenditionSpec) (j : Job)
    (record : DispatchRecord) (r : CompletionReport) : Channel :=
  let c1 := c.updateFullness spec j.rendition j.delta r.size
  let c2 := if r.capped then { c1 with counters := c1.counters.capped } else c1
  if r.sourceDamaged then c2
  else c2.modContext j.rendition (fun x => x.replaceReference record)

/-- R84 step 6: the rendition's in-flight flag becomes no. -/
def Channel.landed (c : Channel) (r : Nat) : Channel :=
  c.modContext r (fun x => { x with inFlight := false })

/-- R81: the picture area of a slot, as an engine reads it. A slot in SOURCE or REFERENCE is not
written (section 6.2), so it holds at the completion what the job's reads found. -/
def SlotPool.area (p : SlotPool) (i : SlotId) : PictureArea :=
  p.slots[i].picture

/-- R67 and R81: the bytes of the coded unit: what the engine made of the source picture and, for a
unit that is not a key picture, of the reference. A job without a source picture is none of R79's. -/
def SlotPool.codedContent (p : SlotPool) (j : Job) (reference : SlotId) (r : CompletionReport)
    (serial : Nat) : CodedContent :=
  match r.sourceDamaged, j.source with
  | false, some src =>
    .engine serial (p.area src.slot) (if r.key then none else some (p.area reference))
  | _, _ => .skipPicture

/-- R81 and R82: the engine has written its reconstruction, at the job's output dimensions, into the
recon slot's picture area; with source damage it writes none. -/
def SlotPool.drawRecon (p : SlotPool) (record : DispatchRecord) (r : CompletionReport)
    (serial : Nat) : SlotPool :=
  if r.sourceDamaged then p
  else p.draw record.recon (.reconstructed serial record.width record.height)

/-- R84: a normal completion of the job at index `i`. -/
def State.completeJob (s : State) (e : EncodeEngineId) (i : Nat) (j : Job)
    (record : DispatchRecord) (r : CompletionReport) : State :=
  let spec := s.renditionSpec j.channel j.rendition
  let old := (((s.channel j.channel).contexts[j.rendition]?).map
    (fun x => x.reference)).getD record.recon
  let t := s.modChannel j.channel (fun c =>
    ((c.engineCompleted spec j record r).completeInSegment j.segment j.rendition r.size).landed
      j.rendition)
  let u := (t.releaseReservation record.cap).enqueue
    (.coded (j.tag r.key) r.size (s.pool.codedContent j old r s.freeSerial))
  { u with
    pool := ((s.pool.drawRecon record r s.freeSerial).swapReference old record
      r.sourceDamaged).dropJobSource j
    jobs := u.jobs.eraseIdx i
    encode := u.encode.set e .idle
    freeSerial := u.freeSerial + 1 }

/-- R85: an abandoned completion of the job at index `i`. Its engine has worked to the end (R86). -/
def State.abandonJob (s : State) (e : EncodeEngineId) (i : Nat) (j : Job)
    (record : DispatchRecord) (r : CompletionReport) : State :=
  let t := (s.modChannel j.channel (fun c => c.landed j.rendition)).releaseReservation record.cap
  { t with
    pool := ((s.pool.drawRecon record r s.freeSerial).release record.recon).dropJobSource j
    jobs := t.jobs.eraseIdx i
    encode := t.encode.set e .idle
    freeSerial := t.freeSerial + 1 }

/-- ENCODE_COMPLETION, R83 to R85; a pending hold may then be decided (R159). A report that R67 and
R82 exclude, or one from an idle engine, is no completion (assumption 2, DESIGN CHOICE). -/
def execEncodeCompletion (e : EncodeEngineId) (r : CompletionReport) (s : State) :
    Host.Outcome State Fault Refusal :=
  let s := s.beginReturn
  match s.encode[e], runningOn s.jobs e with
  | .busy sourceRead referenceRead, some (i, j, record, abandoned) =>
    if reportPossible record sourceRead referenceRead r then
      if (s.channel j.channel).isLive && !abandoned then
        .next (s.completeJob e i j record r).settleHold
      else .next (s.abandonJob e i j record r).settleHold
    else .next s
  | _, _ => .next s

end Sys2Proof.Machine
end

