-- ==== Sys2Proof/Machine/Dispatch.lean ====
section
/-! DEFINITION. The meaning of every command, one arm for each. -/

namespace Sys2Proof.Machine

/-- The effect of a command on everything but the queue of waiting commands. -/
def exec (i : Instr) (s : State) : Host.Outcome State Fault Refusal :=
  match i with
  | .setLink f => Sys2Proof.Machine.execSetLink f s
  | .queryPart f => Sys2Proof.Machine.execQueryPart f s
  | .loadProfile f => Sys2Proof.Machine.execLoadProfile f s
  | .readProfile f => Sys2Proof.Machine.execReadProfile f s
  | .loadWindow f => Sys2Proof.Machine.execLoadWindow f s
  | .readWindow f => Sys2Proof.Machine.execReadWindow f s
  | .loadMarker f => Sys2Proof.Machine.execLoadMarker f s
  | .readMarker f => Sys2Proof.Machine.execReadMarker f s
  | .clearMatch f => Sys2Proof.Machine.execClearMatch f s
  | .openChannel f => Sys2Proof.Machine.execOpen f s
  | .closeChannel f => Sys2Proof.Machine.execClose f s
  | .abortChannel f => Sys2Proof.Machine.execAbort f s
  | .queryChannel f => Sys2Proof.Machine.execQueryChannel f s
  | .readFaultLog f => Sys2Proof.Machine.execReadFaultLog f s
  | .clearFaultLog f => Sys2Proof.Machine.execClearFaultLog f s
  | .hold f => Sys2Proof.Machine.execHold f s
  | .release f => Sys2Proof.Machine.execRelease f s
  | .restart f => Sys2Proof.Machine.execRestart f s
  | .unknownDirective code f => Sys2Proof.Machine.execUnknownDirective code f s
  | .pictureStartFrame p f => Sys2Proof.Machine.execPictureStartFrame p f s
  | .pictureContinuationFrame p f => Sys2Proof.Machine.execPictureContinuationFrame p f s
  | .smallUnitFrame k p f => Sys2Proof.Machine.execSmallUnitFrame k p f s
  | .headerCheckFailure header => Sys2Proof.Machine.execHeaderCheckFailure header s
  | .ingestLinkUp => Sys2Proof.Machine.execIngestLinkUp s
  | .ingestLinkDown inHand => Sys2Proof.Machine.execIngestLinkDown inHand s
  | .pictureCreditGrant => Sys2Proof.Machine.execPictureCreditGrant s
  | .smallCreditGrant => Sys2Proof.Machine.execSmallCreditGrant s
  | .directiveCreditGrant => Sys2Proof.Machine.execDirectiveCreditGrant s
  | .creditFrameSent => Sys2Proof.Machine.execCreditFrameSent s
  | .reportFrameSent => Sys2Proof.Machine.execReportFrameSent s
  | .egressCredit f => Sys2Proof.Machine.execEgressCredit f s
  | .egressLinkUp => Sys2Proof.Machine.execEgressLinkUp s
  | .egressLinkDown => Sys2Proof.Machine.execEgressLinkDown s
  | .egressRead o => Sys2Proof.Machine.execEgressRead o s
  | .egressFrameBegin => Sys2Proof.Machine.execEgressFrameBegin s
  | .egressFrameSent => Sys2Proof.Machine.execEgressFrameSent s
  | .stallTimerExpiry => Sys2Proof.Machine.execStallTimerExpiry s
  | .decodeDispatch => Sys2Proof.Machine.execDecodeDispatch s
  | .decodeCompletion e o decodable => Sys2Proof.Machine.execDecodeCompletion e o decodable s
  | .takeHeldPicture => Sys2Proof.Machine.execTakeHeldPicture s
  | .engineDispatch => Sys2Proof.Machine.execEngineDispatch s
  | .skipCompletion ch r => Sys2Proof.Machine.execSkipCompletion ch r s
  | .encodeCompletion e report => Sys2Proof.Machine.execEncodeCompletion e report s
  | .segmentRecord ch => Sys2Proof.Machine.execSegmentRecord ch s
  | .finalSegmentClose ch => Sys2Proof.Machine.execFinalSegmentClose ch s
  | .drainCompletion ch => Sys2Proof.Machine.execDrainCompletion ch s
  | .abortCompletion ch => Sys2Proof.Machine.execAbortCompletion ch s
  | .processCueUnit => Sys2Proof.Machine.execProcessCueUnit s
  | .processAudioUnit => Sys2Proof.Machine.execProcessAudioUnit s
  | .idleTimerExpiry => Sys2Proof.Machine.execIdleTimerExpiry s
  | .powerOnReset => Sys2Proof.Machine.execPowerOnReset s
  | .encodeEngineRead e r o => Sys2Proof.Machine.execEncodeEngineRead e r o s
  | .unitKindNoneFrame p f => Sys2Proof.Machine.execUnitKindNoneFrame p f s

end Sys2Proof.Machine
end

