-- ==== Sys2Proof/WellFormed.lean ====
section
/-! DEFINITION. Which commands are well formed: what R135, R149, R67, R97 and R147 let a command
carry. `exec` gives every command an answer. One that is not well formed is either another row's
event (a frame whose length field is out of range is a header check failure) or no event at all. -/

namespace Sys2Proof

open Machine

/-- R149: the codes of R166's table name the eighteen directives. -/
def namesDirective (code : Byte) : Bool :=
  decide (1 ≤ code.toNat) && decide (code.toNat ≤ 0x12)

/-- R67: what a completion report may say, whatever the job. -/
def CompletionReport.wellFormed (r : CompletionReport) : Bool :=
  decide (16 ≤ r.size) && decide (r.size ≤ 1048576)
    && (!r.sourceDamaged || (r.size == 16 && !r.key && !r.capped))
    && (r.sourceDamaged || !r.referenceDamaged || r.key)

/-- R135 step 2 on a frame's length field. -/
def Payload.lengthOk (p : Payload) : Bool :=
  lengthInRange p.length.toNat

/-- The commands each row of the table stands for. -/
def Instr.wellFormed : Instr → Bool
  | .setLink f | .queryPart f | .loadProfile f | .readProfile f | .loadWindow f
  | .readWindow f | .loadMarker f | .readMarker f | .clearMatch f | .openChannel f
  | .closeChannel f | .abortChannel f | .queryChannel f | .readFaultLog f
  | .clearFaultLog f | .hold f | .release f | .restart f => f.payload.lengthOk
  | .unknownDirective code f => !namesDirective code && f.payload.lengthOk
  | .pictureStartFrame _ f | .pictureContinuationFrame _ f | .smallUnitFrame _ _ f
  | .unitKindNoneFrame _ f => f.payload.lengthOk
  | .headerCheckFailure h => forwardHeaderFails h
  | .ingestLinkDown n => decide (n ≤ 32)
  | .egressCredit f => f.header.length == 16
  | .encodeCompletion _ r => r.wellFormed
  | .encodeEngineRead _ _ o => o != .clean
  | .ingestLinkUp | .pictureCreditGrant | .smallCreditGrant | .directiveCreditGrant
  | .creditFrameSent | .reportFrameSent | .egressLinkUp | .egressLinkDown | .egressRead _
  | .egressFrameBegin | .egressFrameSent | .stallTimerExpiry | .decodeDispatch
  | .decodeCompletion _ _ _ | .takeHeldPicture | .engineDispatch | .skipCompletion _ _
  | .segmentRecord _ | .finalSegmentClose _ | .drainCompletion _ | .abortCompletion _
  | .processCueUnit | .processAudioUnit | .idleTimerExpiry | .powerOnReset => true

end Sys2Proof
end

