-- ==== Sys2Proof/Safety.lean ====
section
/-! DEFINITION. What claims about the part are stated in: the invariants a safe run keeps (R36, R68,
R74, R89, R92, R122, R139, R151, R157 to R160, R23 with R155), and the words for a directive frame that reaches
the directive unit and for what a marker or a window matches bit by bit. -/

namespace Sys2Proof.Machine

/-! ### Invariants -/

/-- R151: queued reports plus held directive credits never exceed 32. -/
def State.ReportPlaces (s : State) : Prop :=
  s.reports.queue.length + s.ingest.directiveUnspent + s.ingest.inHand ≤ 32

/-- R78 and R122: the egress bytes a job has reserved. -/
def Job.reservation (j : Job) : Nat :=
  match j.state with
  | .queued => 0
  | .running record _ => record.cap

/-- R122: the two totals of the egress store are the sums they stand for, and fit it. -/
def State.EgressTotals (s : State) : Prop :=
  s.egress.reservedBytes = (s.jobs.map Job.reservation).sum
    ∧ s.egress.queuedBytes = (s.egress.queue.map EgressEntry.size).sum
    ∧ s.egress.reservedBytes + s.egress.queuedBytes ≤ 268435456

/-- The engine of a RUNNING job. -/
def Job.engine? (j : Job) : Option EncodeEngineId :=
  match j.state with
  | .queued => none
  | .running record _ => some record.engine

/-- The engines that the RUNNING jobs name, in queue order. -/
def State.runningEngines (s : State) : List EncodeEngineId :=
  s.jobs.filterMap Job.engine?

/-- R79 and R92: no two RUNNING jobs share an engine, each one's engine is busy, and the free list
holds at least 8 slots less the number of RUNNING jobs. -/
def State.EngineReserve (s : State) : Prop :=
  s.runningEngines.Nodup
    ∧ (∀ e ∈ s.runningEngines, s.encode[e].isBusy = true)
    ∧ 8 ≤ s.pool.free.length + s.runningEngines.length

/-- R36: a segment table holds at most 4 entries, of which only the newest can be OPEN, and none
before the channel's first good picture (R40). -/
def Channel.TableOk (c : Channel) : Prop :=
  c.segments.length ≤ 4
    ∧ (∀ e ∈ c.segments.dropLast, e.isOpen = false)
    ∧ (c.firstGood = false → c.segments = [])

/-- R36, R74, R114 and R139: the bounds of the segment tables, the job queue and the small-unit
buffer with the SMALL credits outstanding. -/
def State.QueueBounds (s : State) : Prop :=
  (∀ ch, (s.channel ch).TableOk)
    ∧ s.jobs.length ≤ 256
    ∧ s.small.length + s.ingest.smallOutstanding ≤ 128

/-- R157, R159, R160 and R130: the idle timer runs exactly while the part is HOLD_PENDING; in HELD no
encode engine is busy, no decode engine is DECODING and the stall timer is stopped; and it is stopped
while stalled is set. -/
def State.HoldOk (s : State) : Prop :=
  (s.hold.part = .holdPending ↔ s.hold.idleTimer.isSome = true)
    ∧ (s.hold.part = .held →
        (∀ e : EncodeEngineId, s.encode[e].isBusy = false)
        ∧ (∀ e : DecodeEngineId, s.decode.engines[e].isDecoding = false)
        ∧ s.egress.stallTimer = none)
    ∧ (s.egress.stalled = true → s.egress.stallTimer = none)

/-- R155: the ranges of the link settings. -/
def LinkSettings.InRange (l : LinkSettings) : Prop :=
  1 ≤ l.pictureLimit ∧ l.pictureLimit ≤ 16 ∧ 1 ≤ l.smallLimit ∧ l.smallLimit ≤ 64
    ∧ 1024 ≤ l.egressPayload ∧ l.egressPayload ≤ 8192 ∧ l.egressPayload % 512 = 0
    ∧ l.stallTimeout ≤ 60000

/-- Section 2.1: the ranges of a rendition's ten fields. -/
def RenditionSpec.InRange (x : RenditionSpec) : Prop :=
  160 ≤ x.width ∧ x.width ≤ 1920 ∧ x.width % 16 = 0
    ∧ 96 ≤ x.height ∧ x.height ≤ 1080 ∧ x.height % 8 = 0
    ∧ 64000 ≤ x.bitrate ∧ x.bitrate ≤ 20000000 ∧ 1 ≤ x.window ∧ x.window ≤ 8
    ∧ x.qnom ≤ 63 ∧ x.qmin ≤ x.qnom ∧ x.qnom ≤ x.qmax ∧ x.qmax ≤ 63
    ∧ x.gain ≤ 15 ∧ x.keyOffset ≤ 15 ∧ 16 ≤ x.cap ∧ x.cap ≤ 1024

/-- Section 2.1 and R23: the ranges of a profile's fields, the renditions below V only. -/
def Profile.InRange (p : Profile) : Prop :=
  1 ≤ p.count ∧ p.count ≤ 4 ∧ p.audioEnabled ≤ 1
    ∧ 48000 ≤ p.segmentTicks ∧ p.segmentTicks ≤ 480000
    ∧ 24000 ≤ p.minimumTicks ∧ p.minimumTicks ≤ p.segmentTicks
    ∧ 400 ≤ p.intervalHint ∧ p.intervalHint ≤ 48000
    ∧ (∀ r : Fin 4, r.val < p.count → (p.renditions[r]).InRange)
    ∧ 256 ≤ p.initialGain ∧ p.initialGain ≤ p.maximumGain ∧ p.maximumGain ≤ 16384
    ∧ 1 ≤ p.high ∧ p.high ≤ 32767 ∧ p.low < p.high ∧ 1 ≤ p.quietRun ∧ p.quietRun ≤ 255

/-- R24 and R155: the link settings and every valid profile are in range. -/
def State.TablesInRange (s : State) : Prop :=
  s.settings.InRange ∧ ∀ p : ProfileId, s.profiles[p].valid = true → (s.profiles[p]).InRange

/-- R68: every rendition's fullness F is at most its buffer size S = B × W, and a CLOSED channel has no
contexts (section 1.1). -/
def State.FullnessOk (s : State) : Prop :=
  ∀ ch, ((s.channel ch).state = .closed → (s.channel ch).contexts = [])
    ∧ ∀ (r : Fin 4) (x : RenditionContext), (s.channel ch).contexts[r.val]? = some x →
      x.fullness ≤ (s.profileOf ch).renditions[r].bitrate * (s.profileOf ch).renditions[r].window

/-! ### Who holds which slot (section 6.2) -/

/-- The slot that a decode engine holds, with the state it holds it in. -/
def DecodeEngine.holds : DecodeEngine → Option (SlotId × SlotState)
  | .idle => none
  | .decoding d _ => some (d.slot, .decoding)
  | .holding pic => pic.source.map (fun src => (src.slot, .holding))

/-- The recon slot that a RUNNING job holds. -/
def Job.holds (j : Job) : Option (SlotId × SlotState) :=
  match j.state with
  | .queued => none
  | .running record _ => some (record.recon, .recon)

/-- The slots that a channel's reassembly context and its rendition contexts hold. -/
def Channel.holds (c : Channel) : List (SlotId × SlotState) :=
  c.assembly.toList.map (fun part => (part.slot, .filling))
    ++ c.contexts.map (fun x => (x.reference, .reference))

/-- Section 6.2: every slot that is neither FREE nor SOURCE, with the state its holder has it in. -/
def State.holders (s : State) : List (SlotId × SlotState) :=
  s.pool.reserved.map (fun i => (i, .reserved))
    ++ s.channels.toList.flatMap Channel.holds
    ++ s.decode.queue.map (fun d => (d.slot, .decodeWait))
    ++ s.decode.engines.toList.filterMap DecodeEngine.holds
    ++ s.jobs.filterMap Job.holds

/-- R96: the number of engine jobs that read a slot and have not yet come back. -/
def State.readers (s : State) (i : SlotId) : Nat :=
  (s.jobs.filter (fun j => !j.skip && j.source.map (fun src => src.slot) == some i)).length

/-- R89, with section 6.2 and R96: the free list holds exactly the FREE slots, none twice; no slot has
two holders, each held slot is in its holder's state, and each slot neither FREE nor SOURCE has its
holder; and a SOURCE slot's count is the number of the jobs that read it. A RUNNING job is no skip job
(R77), only a RUNNING channel has a partial picture (R94), and a CLOSED one has no references (R12). -/
def State.SlotsOk (s : State) : Prop :=
  s.pool.free.Nodup
    ∧ (∀ i : SlotId, i ∈ s.pool.free ↔ s.pool.slots[i].state = .free)
    ∧ (s.holders.map (fun x => x.1)).Nodup
    ∧ (∀ x ∈ s.holders, s.pool.slots[x.1].state = x.2)
    ∧ (∀ i : SlotId, s.pool.slots[i].state = .free ∨ (∃ n, s.pool.slots[i].state = .source n)
        ∨ (i, s.pool.slots[i].state) ∈ s.holders)
    ∧ (∀ (i : SlotId) (n : Nat), s.pool.slots[i].state = .source n ↔ n = s.readers i ∧ 0 < n)
    ∧ (∀ j ∈ s.jobs, j.isRunning = true → j.skip = false)
    ∧ ∀ ch, ((s.channel ch).assembly ≠ none → (s.channel ch).state = .running)
        ∧ ((s.channel ch).state = .closed → (s.channel ch).contexts = [])

/-! ### Directive frames (R135, R148, R166) -/

/-- The directive code and the frame of a command that is a directive frame. -/
def directiveOf : Instr → Option (Byte × DirectiveFrame)
  | .setLink f => some (0x01, f)
  | .queryPart f => some (0x02, f)
  | .loadProfile f => some (0x03, f)
  | .readProfile f => some (0x04, f)
  | .loadWindow f => some (0x05, f)
  | .readWindow f => some (0x06, f)
  | .loadMarker f => some (0x07, f)
  | .readMarker f => some (0x08, f)
  | .clearMatch f => some (0x09, f)
  | .openChannel f => some (0x0A, f)
  | .closeChannel f => some (0x0B, f)
  | .abortChannel f => some (0x0C, f)
  | .queryChannel f => some (0x0D, f)
  | .readFaultLog f => some (0x0E, f)
  | .clearFaultLog f => some (0x0F, f)
  | .hold f => some (0x10, f)
  | .release f => some (0x11, f)
  | .restart f => some (0x12, f)
  | .unknownDirective code f => some (code, f)
  | .pictureStartFrame _ _ | .pictureContinuationFrame _ _ | .smallUnitFrame _ _ _
  | .headerCheckFailure _ | .ingestLinkUp | .ingestLinkDown _ | .pictureCreditGrant
  | .smallCreditGrant | .directiveCreditGrant | .creditFrameSent | .reportFrameSent
  | .egressCredit _ | .egressLinkUp | .egressLinkDown | .egressRead _ | .egressFrameBegin
  | .egressFrameSent | .stallTimerExpiry | .decodeDispatch | .decodeCompletion _ _ _
  | .takeHeldPicture | .engineDispatch | .skipCompletion _ _ | .encodeCompletion _ _
  | .segmentRecord _ | .finalSegmentClose _ | .drainCompletion _ | .abortCompletion _
  | .processCueUnit | .processAudioUnit | .idleTimerExpiry | .powerOnReset
  | .encodeEngineRead _ _ _ | .unitKindNoneFrame _ _ => none

/-- R166: the body lengths, by code. -/
def bodyLengthOf (code : Byte) : Nat :=
  match code.toNat with
  | 0x01 => 8
  | 0x03 => 92
  | 0x05 => 12
  | 0x07 => 20
  | 0x0A => 8
  | _ => 4

/-- R135: a payload that is of its header's length and passes its check. -/
def PayloadGood (p : Payload) : Prop :=
  p.bytes.length = p.length.toNat ∧ p.check = crc32 p.bytes

/-- R135 step 2 passes on a delivered frame: the link is UP and the length field is in range. -/
def State.Delivers (s : State) (p : Payload) : Prop :=
  s.ingest.link = .up ∧ 1 ≤ p.length.toNat ∧ p.length.toNat ≤ 8192

/-- R135 to R137: a directive frame reaches the directive unit: it was received before the loss of the
link (R147, assumption 6, DEDUCED), or it is delivered with a credit unspent and a good payload. -/
def State.Hands (s : State) (f : DirectiveFrame) : Prop :=
  0 < s.ingest.inHand
    ∨ (s.ingest.inHand = 0 ∧ s.Delivers f.payload ∧ 0 < s.ingest.directiveUnspent
        ∧ PayloadGood f.payload)

/-- The part as the directive unit finds it: the return direction may have begun a frame
(assumption 5, DESIGN CHOICE), and the frame's credit is spent and held (R137, R140). -/
def State.taking (s : State) : State :=
  let u := s.beginReturn
  if 0 < u.ingest.inHand then u
  else
    { u with ingest := { u.ingest with
      directiveUnspent := u.ingest.directiveUnspent - 1, inHand := u.ingest.inHand + 1 } }

/-- The part once a directive is answered with a result and data and nothing else (R148). -/
def State.answered (s : State) (f : DirectiveFrame) (code : Byte) (r : Result) (d : ReplyData) :
    State :=
  s.taking.reply f.tag code r d

/-! ### Matching bit by bit (R29, R52) -/

/-- Two values agree in every bit position where the mask holds 0. -/
def AgreeWhereZero {w : Nat} (x value mask : BitVec w) : Prop :=
  ∀ b : Nat, b < w → mask.getLsbD b = false → x.getLsbD b = value.getLsbD b

end Sys2Proof.Machine
end

