-- ==== Sys2Proof/Certificates/Slice0/Obligations.lean ====
section
/-! DEFINITION. The statements for the provers. -/

open Sys2Proof Sys2Proof.Machine




/-! ### The part as a machine -/

/-- One step takes the command at the front of the queue and is that command's meaning on the rest.
The second clause, idling on an empty queue, is the model's choice (assumption 3). -/
def Obligations.StepTakesTheFront : Prop :=
  (∀ (s : State) (c : Instr) (rest : List Instr),
      step { s with pending := c :: rest } = exec c { s with pending := rest })
    ∧ ∀ s : State, s.pending = [] → step s = .next s

/-- R164 to R166: the frame a server sends for a well-formed command of the ingest link's forward
direction is read as that command, with every field it carries. The form of a frame as a command is
the model's reading of R135 (assumption 25). -/
def Obligations.ForwardFramesReadBack : Prop :=
  ∀ (i : Instr) (f : RawFrame),
    i.wellFormed = true → Decode.toFrame i = some f → Decode.ofFrame f = i

/-- R163: the state after power-on reset meets every invariant stated below. The values that the
manual does not give at reset play no part in them (assumptions 1, 10, 23, 29). -/
def Obligations.ResetMeetsTheInvariants : Prop :=
  State.reset.ReportPlaces ∧ State.reset.EgressTotals ∧ State.reset.EngineReserve
    ∧ State.reset.QueueBounds ∧ State.reset.HoldOk ∧ State.reset.TablesInRange
    ∧ State.reset.FullnessOk ∧ State.reset.SlotsOk

/-- R151: every step keeps queued reports plus held directive credits at 32 or fewer. -/
def Obligations.ReportPlacesKept : Prop :=
  ∀ s t : State, s.ReportPlaces → step s = .next t → t.ReportPlaces

/-- R122: every step keeps the reserved bytes the sum of the RUNNING jobs' reservations, the queued
bytes the sum of the entries' sizes, and the two together within the store. -/
def Obligations.EgressTotalsKept : Prop :=
  ∀ s t : State, s.EgressTotals → step s = .next t → t.EgressTotals

/-- R79 and R92: every step keeps RUNNING jobs on distinct busy engines and the engine reserve. R89,
R93, R95, R96 and section 6.2: while valid profiles are in range, every step keeps the slot pool's
law: the free list lists exactly the FREE slots and none twice; every slot that is neither FREE nor
SOURCE is held, in its state, by exactly one of the holders that section 6.2 names; and a SOURCE
slot's count is the number of the engine jobs that read it, not 0. -/
def Obligations.EngineReserveKept : Prop :=
  (∀ s t : State, s.EngineReserve → step s = .next t → t.EngineReserve)
    ∧ ∀ s t : State, s.TablesInRange → s.SlotsOk → step s = .next t → t.SlotsOk

/-- R79 and R92: while the engine reserve holds, every step answers a next state: the one fault of
the model, a job's start that finds the free list empty, is never met. -/
def Obligations.NoStepStops : Prop :=
  ∀ s : State, s.EngineReserve → ∃ t : State, step s = .next t

/-- R36, R40, R74, R114, R139: every step keeps the segment tables, the job queue and the small-unit
buffer with its outstanding credits within their bounds. -/
def Obligations.QueueBoundsKept : Prop :=
  ∀ s t : State, s.QueueBounds → step s = .next t → t.QueueBounds

/-- R130, R157, R159, R160: every step keeps the idle timer running exactly while the part is
HOLD_PENDING, the engines at rest in HELD, and the stall timer stopped in HELD and while stalled. -/
def Obligations.HoldStateKept : Prop :=
  ∀ s t : State, s.HoldOk → step s = .next t → t.HoldOk

/-- R24 and R155: every step keeps the link settings and every valid profile in range. R68, R3 and
R26: every step keeps each rendition's fullness between 0 and its buffer size S = B × W, and a
CLOSED channel without contexts. -/
def Obligations.TablesKeepTheirRanges : Prop :=
  (∀ s t : State, s.TablesInRange → step s = .next t → t.TablesInRange)
    ∧ ∀ s t : State, s.FullnessOk → step s = .next t → t.FullnessOk

/-- R26: a profile referenced by a channel that is not CLOSED does not change, whatever command is
carried out, short of power-on reset. -/
def Obligations.ReferencedProfileIsLocked : Prop :=
  ∀ (c : Instr) (s t : State) (p : ProfileId), exec c s = .next t → c ≠ .powerOnReset →
    (∃ ch, (s.channel ch).state ≠ .closed ∧ (s.channel ch).profile = p) →
    t.profiles[p] = s.profiles[p]

/-! ### Shared operations -/

/-- R152 and R148: an event enters the report queue at the tail, with any pending events-lost mark,
when queued reports plus held directive credits are below 32, and is dropped otherwise, which makes
the mark pending. A reply enters always, and its directive's credit is released. -/
def Obligations.ReportsEnterTheQueue : Prop :=
  (∀ (s : State) (e : Event),
      s.reports.queue.length + (s.ingest.directiveUnspent + s.ingest.inHand) < 32 →
      s.raise e = { s with reports :=
        { queue := s.reports.queue ++ [{ eventsLost := s.reports.lostPending, body := .event e }],
          lostPending := false } })
    ∧ (∀ (s : State) (e : Event),
      32 ≤ s.reports.queue.length + (s.ingest.directiveUnspent + s.ingest.inHand) →
      s.raise e = { s with reports := { queue := s.reports.queue, lostPending := true } })
    ∧ ∀ (s : State) (tag : BitVec 16) (code : Byte) (r : Result) (d : ReplyData),
      s.reply tag code r d = { s with
        reports :=
          { queue := s.reports.queue ++
              [{ eventsLost := s.reports.lostPending, body := .reply tag code r d }],
            lostPending := false },
        ingest := { s.ingest with inHand := s.ingest.inHand - 1 } }

/-- R91: a slot that becomes FREE joins the tail of the free list, and a slot that is taken leaves
from the head. No other slot changes, and no slot's contents do. -/
def Obligations.FreeListIsFirstInFirstOut : Prop :=
  (∀ (p : SlotPool) (i j : SlotId),
      (p.release i).free = p.free ++ [i] ∧ (p.release i).reserved = p.reserved
      ∧ (p.release i).slots[j] =
          if j = i then { p.slots[j] with state := .free } else p.slots[j])
    ∧ (∀ (p : SlotPool) (st : SlotState), p.free = [] → p.take st = none)
    ∧ ∀ (p : SlotPool) (st : SlotState) (i : SlotId) (rest : List SlotId), p.free = i :: rest →
      ∃ q, p.take st = some (i, q) ∧ q.free = rest ∧ q.reserved = p.reserved
        ∧ ∀ j : SlotId, q.slots[j] =
          if j = i then { p.slots[j] with state := st } else p.slots[j]

/-- R130: when the stall timer starts, and with what: it is stopped, a frame is ready, there is no
credit, the part is not HELD, stalled is clear and the timeout is not 0. Otherwise nothing changes.
A rewound head counts as a ready frame (assumption 8). -/
def Obligations.StallTimerStarts : Prop :=
  ∀ s : State,
    s.startStall =
      if s.egress.stallTimer = none ∧ s.egress.queue ≠ [] ∧ s.egress.wire = .idle
          ∧ s.egress.head ≠ .unread ∧ s.egress.credits = 0 ∧ s.hold.part ≠ .held
          ∧ s.egress.stalled = false ∧ s.settings.stallTimeout ≠ 0 then
        { s with egress := { s.egress with stallTimer := some s.settings.stallTimeout } }
      else s

/-! ### Windows, markers, profiles -/

/-- R29: the lowest-numbered of W1 to W6 that is active and agrees with the course number wherever
its mask holds 0 is the chosen window, and W0 when there is none. -/
def Obligations.ChosenWindow : Prop :=
  ∀ (ws : Vector Window 7) (course : BitVec 24),
    (∀ i : WindowId, i ≠ 0 → ws[i].active = true → AgreeWhereZero course ws[i].value ws[i].mask →
        (∀ j : WindowId, j ≠ 0 → j < i →
          ¬ (ws[j].active = true ∧ AgreeWhereZero course ws[j].value ws[j].mask)) →
        chosenWindow ws course = ws[i])
      ∧ ((∀ i : WindowId, i ≠ 0 →
            ¬ (ws[i].active = true ∧ AgreeWhereZero course ws[i].value ws[i].mask)) →
          chosenWindow ws course = ws[0])

/-- R52: when a marker matches a unit. R53 to R55: what one unit's evaluation does to the match
flags, which MARK events it raises, and what it does to the cut pending of the unit's channel, all
four markers taken in order; and that it leaves the rest of the part alone. -/
def Obligations.MarkersAreEvaluated : Prop :=
  (∀ (m : Marker) (u : MarkedUnit),
      m.hits u = true ↔
        m.enabled = true
          ∧ m.kinds.getLsbD (match u.kind with
              | .picture => 0
              | .audio => 1
              | .cue => 2) = true
          ∧ AgreeWhereZero (BitVec.ofNat 5 u.channel.val) m.channelValue m.channelMask
          ∧ AgreeWhereZero (match m.field with
              | .timestamp => BitVec.ofNat 32 u.time
              | .flags => u.flags.setWidth 32
              | .code => u.code) m.compareValue m.compareMask)
    ∧ (∀ (s : State) (u : MarkedUnit),
        (∀ i : MarkerId,
            (s.evaluateMarkers u).matchFlags[i] = (s.matchFlags[i] || s.markers[i].hits u))
          ∧ ((s.evaluateMarkers u).channel u.channel).cutPending =
              (List.finRange 4).foldl
                (fun (p : Option CutPending) (i : MarkerId) =>
                  if s.markers[i].hits u = true ∧ s.markers[i].action ≠ .none then
                    let t := if u.kind = .picture ∧ s.markers[i].action = .cutNext then u.time + 1
                      else u.time
                    let chapter := if s.markers[i].chapter then some i else none
                    some (match p with
                      | none => { notBefore := t, chapter := chapter }
                      | some q => { notBefore := min q.notBefore t,
                                    chapter := if q.chapter.isSome then q.chapter else chapter })
                  else p)
                (s.channel u.channel).cutPending
          ∧ (s.evaluateMarkers u).reports =
              ((List.finRange 4).foldl
                (fun (t : State) (i : MarkerId) =>
                  if s.markers[i].hits u = true ∧ s.markers[i].report = true then
                    t.raise (.mark i u.channel u.kind u.time)
                  else t) s).reports
          ∧ s.evaluateMarkers u =
              { s with
                matchFlags := (s.evaluateMarkers u).matchFlags
                reports := (s.evaluateMarkers u).reports
                channels := s.channels.set u.channel
                  { s.channel u.channel with
                    cutPending := ((s.evaluateMarkers u).channel u.channel).cutPending } })

/-- R23 and section 2.1: the field checks of a record loaded as valid pass exactly when every field
is in its range, the renditions below V only, and the number named is that of the first field, in
the order of the numbers 2 to 51, that is not. -/
def Obligations.ProfileFieldChecks : Prop :=
  ∀ p : Profile,
    let rendition := fun (x : RenditionSpec) (k : Nat) =>
      match k with
      | 0 => 160 ≤ x.width ∧ x.width ≤ 1920 ∧ x.width % 16 = 0
      | 1 => 96 ≤ x.height ∧ x.height ≤ 1080 ∧ x.height % 8 = 0
      | 2 => 64000 ≤ x.bitrate ∧ x.bitrate ≤ 20000000
      | 3 => 1 ≤ x.window ∧ x.window ≤ 8
      | 4 => x.qnom ≤ 63
      | 5 => x.qmin ≤ x.qnom
      | 6 => x.qnom ≤ x.qmax ∧ x.qmax ≤ 63
      | 7 => x.gain ≤ 15
      | 8 => x.keyOffset ≤ 15
      | _ => 16 ≤ x.cap ∧ x.cap ≤ 1024
    let passes := fun n : Nat =>
      match n with
      | 2 => 1 ≤ p.count ∧ p.count ≤ 4
      | 3 => p.audioEnabled ≤ 1
      | 4 => 48000 ≤ p.segmentTicks ∧ p.segmentTicks ≤ 480000
      | 5 => 24000 ≤ p.minimumTicks ∧ p.minimumTicks ≤ p.segmentTicks
      | 6 => 400 ≤ p.intervalHint ∧ p.intervalHint ≤ 48000
      | 47 => 256 ≤ p.initialGain ∧ p.initialGain ≤ 16384
      | 48 => p.initialGain ≤ p.maximumGain ∧ p.maximumGain ≤ 16384
      | 49 => 1 ≤ p.high ∧ p.high ≤ 32767
      | 50 => p.low < p.high
      | 51 => 1 ≤ p.quietRun ∧ p.quietRun ≤ 255
      | _ => ∀ r : Fin 4, r.val = (n - 7) / 10 → r.val < p.count →
        rendition p.renditions[r] ((n - 7) % 10)
    (p.firstBad = none ↔ p.InRange)
      ∧ ∀ n, p.firstBad = some n ↔
        2 ≤ n ∧ n ≤ 51 ∧ ¬ passes n ∧ ∀ m, 2 ≤ m → m < n → passes m

/-! ### Rate control and the leveller -/

/-- R62 and R63: the budget's bounds, the fullness index d, and the offset, (d − 32) × G divided by
8 and truncated toward zero. R64: the QI is Qnom plus the offset, less the key offset of a job
dispatched key-required, limited to Qmin and Qmax. R65: the output dimensions of an engine job. -/
def Obligations.RateArithmetic : Prop :=
  (∀ (x : RenditionSpec) (fullness delta : Nat), x.InRange → fullness ≤ x.bitrate * x.window →
      1 ≤ delta → delta ≤ 96000 →
      (x.budget delta * 48000 ≤ x.bitrate * delta
          ∧ x.bitrate * delta < (x.budget delta + 1) * 48000
          ∧ 1 ≤ x.budget delta ∧ x.budget delta ≤ 40000000)
        ∧ (x.fullnessIndex fullness * (x.bitrate * x.window) ≤ fullness * 64
          ∧ fullness * 64 < (x.fullnessIndex fullness + 1) * (x.bitrate * x.window)
          ∧ x.fullnessIndex fullness ≤ 64
          ∧ (x.fullnessIndex fullness = 64 ↔ fullness = x.bitrate * x.window))
        ∧ (let product : Int := ((x.fullnessIndex fullness : Int) - 32) * (x.gain : Int)
          8 * (x.offset fullness).natAbs ≤ product.natAbs
            ∧ product.natAbs < 8 * (x.offset fullness).natAbs + 8
            ∧ 0 ≤ x.offset fullness * product
            ∧ -60 ≤ x.offset fullness ∧ x.offset fullness ≤ 60))
    ∧ (∀ (x : RenditionSpec) (fullness : Nat) (key : Bool), x.InRange →
        x.qmin ≤ x.qualityIndex fullness key ∧ x.qualityIndex fullness key ≤ x.qmax
          ∧ (let q : Int := (x.qnom : Int) + x.offset fullness - (if key then (x.keyOffset : Int) else 0)
            (q < x.qmin → x.qualityIndex fullness key = x.qmin)
              ∧ ((x.qmax : Int) < q → x.qualityIndex fullness key = x.qmax)
              ∧ ((x.qmin : Int) ≤ q → q ≤ x.qmax → (x.qualityIndex fullness key : Int) = q)))
    ∧ (∀ (x : RenditionSpec) (width height : Nat), x.InRange →
        160 ≤ width → width ≤ 1920 → 96 ≤ height → height ≤ 1080 →
        (x.outputDims width height).1 = min x.width (width - width % 16)
          ∧ (x.outputDims width height).2 = min x.height (height - height % 8)
          ∧ (x.outputDims width height).1 % 16 = 0
          ∧ 160 ≤ (x.outputDims width height).1 ∧ (x.outputDims width height).1 ≤ 1920
          ∧ (x.outputDims width height).2 % 8 = 0
          ∧ 96 ≤ (x.outputDims width height).2 ∧ (x.outputDims width height).2 ≤ 1080)

/-- R68: the fullness of a rendition after a completion of `size` bytes, with the skip-pending flag
and the counter that an overflow or an underflow changes, and nothing else of the channel record. -/
def Obligations.FullnessUpdate : Prop :=
  ∀ (c : Channel) (x : RenditionSpec) (r delta size : Nat) (ctx : RenditionContext),
    c.contexts[r]? = some ctx →
    let f : Int := (ctx.fullness : Int) + 8 * (size : Int) - ((x.bitrate * delta / 48000 : Nat) : Int)
    let limit := x.bitrate * x.window
    ((limit : Int) < f →
        c.updateFullness x r delta size = { c with
          contexts := c.contexts.set r { ctx with fullness := limit, skipPending := true }
          counters := { c.counters with
            overflows := min 4294967295 (c.counters.overflows + 1) } })
      ∧ (f < 0 →
        c.updateFullness x r delta size = { c with
          contexts := c.contexts.set r { ctx with fullness := 0 }
          counters := { c.counters with
            underflows := min 4294967295 (c.counters.underflows + 1) } })
      ∧ (0 ≤ f → f ≤ limit →
        c.updateFullness x r delta size = { c with
          contexts := c.contexts.set r { ctx with fullness := f.toNat } })

/-- R118: each sample s of a unit levelled at gain g becomes floor((s × g + 2048) / 4096), limited
to the 16-bit range, and the samples so limited are counted. R119: the peak of a levelled unit, and
how gain and quiet run adapt to it. -/
def Obligations.AudioLeveller : Prop :=
  (∀ (g : Nat) (samples : List (BitVec 16)),
      (∀ x ∈ samples, ∃ y : Int,
          4096 * y ≤ x.toInt * (g : Int) + 2048 ∧ x.toInt * (g : Int) + 2048 < 4096 * (y + 1)
            ∧ (y < -32768 → (levelSample g x).toInt = -32768)
            ∧ (32767 < y → (levelSample g x).toInt = 32767)
            ∧ (-32768 ≤ y → y ≤ 32767 → (levelSample g x).toInt = y))
        ∧ clippedCount g samples =
            (samples.filter (fun x =>
              decide (x.toInt * (g : Int) + 2048 < -32768 * 4096)
                || decide (32768 * 4096 ≤ x.toInt * (g : Int) + 2048))).length)
    ∧ ((∀ (g : Nat) (samples : List (BitVec 16)),
          (∀ x ∈ samples, (levelSample g x).toInt.natAbs ≤ peak g samples)
            ∧ (samples ≠ [] → ∃ x ∈ samples, (levelSample g x).toInt.natAbs = peak g samples)
            ∧ peak g samples ≤ 32768)
        ∧ ∀ (l : Leveller) (p : Profile) (loudest : Nat), p.low < p.high →
          (p.high < loudest →
              l.adapt p loudest = { gain := max 256 (l.gain - l.gain / 16), quietRun := 0 })
            ∧ (loudest < p.low → l.quietRun + 1 < p.quietRun →
              l.adapt p loudest = { gain := l.gain, quietRun := l.quietRun + 1 })
            ∧ (loudest < p.low → p.quietRun ≤ l.quietRun + 1 →
              l.adapt p loudest = { gain := min p.maximumGain (l.gain + l.gain / 32), quietRun := 0 })
            ∧ (p.low ≤ loudest → loudest ≤ p.high →
              l.adapt p loudest = { gain := l.gain, quietRun := 0 }))

/-! ### Directives (chapter 11) -/

/-- R148, R149: every directive that reaches the directive unit gets exactly one reply, with its tag
and code, behind the reports that waited (which only RESTART discards) and before the events it
makes due, and its directive credit is released. The reports before the reply of a RESTART are left
open here (RestartAndPowerOnReset says them). -/
def Obligations.EveryDirectiveGetsOneReply : Prop :=
  ∀ (i : Instr) (code : Byte) (f : DirectiveFrame) (s : State),
    directiveOf i = some (code, f) → i.wellFormed = true → s.Hands f →
    ∃ (t : State) (before : List Report) (lost : Bool) (r : Result) (d : ReplyData)
      (events : List Report),
      exec i s = .next t
        ∧ t.reports.queue =
            before ++ [{ eventsLost := lost, body := .reply f.tag code r d }] ++ events
        ∧ (∀ x ∈ events, ∃ e, x.body = .event e)
        ∧ (r ≠ .done → d = .none ∧ events = [])
        ∧ ((∀ g, i ≠ .restart g) → before = s.reports.queue ∧ lost = s.reports.lostPending
          ∧ t.ingest.directiveUnspent + t.ingest.inHand + 1 =
              s.ingest.directiveUnspent + s.ingest.inHand)

/-- R135, R137, R144: a directive frame delivered with no unspent directive credit is dropped and
counted as uncredited; one whose payload is bad spends its credit, is counted, and gets no reply.
The return direction may first begin a frame (assumption 5). -/
def Obligations.DirectiveFrameDropped : Prop :=
  ∀ (i : Instr) (code : Byte) (f : DirectiveFrame) (s : State),
    directiveOf i = some (code, f) → i.wellFormed = true →
    s.ingest.inHand = 0 → s.Delivers f.payload →
    (s.ingest.directiveUnspent = 0 →
        exec i s = .next { s.beginReturn with ingest := { s.beginReturn.ingest with
          counters := { s.ingest.counters with
            uncredited := min 4294967295 (s.ingest.counters.uncredited + 1) } } })
      ∧ (0 < s.ingest.directiveUnspent → ¬ PayloadGood f.payload →
        exec i s = .next { s.beginReturn with ingest := { s.beginReturn.ingest with
          directiveUnspent := s.ingest.directiveUnspent - 1
          counters := { s.ingest.counters with
            payloadFailures := min 4294967295 (s.ingest.counters.payloadFailures + 1) } } })

/-- R149 and R166: a body of the wrong length is answered BAD_FIELD with field number 255, and a
code that names no directive UNKNOWN, whatever its body. Nothing else changes. The return direction
may first begin a frame (assumption 5). -/
def Obligations.MalformedDirectiveIsAnswered : Prop :=
  (∀ (i : Instr) (code : Byte) (f : DirectiveFrame) (s : State),
      directiveOf i = some (code, f) → (∀ c g, i ≠ .unknownDirective c g) → s.Hands f →
      f.payload.bytes.length ≠ bodyLengthOf code →
      exec i s = .next (s.answered f code (.badField 255) .none))
    ∧ ∀ (code : Byte) (f : DirectiveFrame) (s : State),
      (code.toNat = 0 ∨ 19 ≤ code.toNat) → s.Hands f →
      exec (.unknownDirective code f) s = .next (s.answered f code .unknown .none)

/-- R155 and R156: SET LINK checks its four fields in order and names the first that is out of
range, or replaces the four settings together; a new timeout may start the stall timer (R130). The
return direction may first begin a frame (assumption 5). -/
def Obligations.SetLinkReplacesAllFour : Prop :=
  ∀ (f : DirectiveFrame) (s : State), s.Hands f → f.payload.bytes.length = 8 →
    let b := f.payload.bytes
    let p := (byteAt b 0).toNat
    let q := (byteAt b 1).toNat
    let z := beNat (field b 2 2)
    let w := beNat (field b 4 2)
    let pOk := 1 ≤ p ∧ p ≤ 16
    let qOk := 1 ≤ q ∧ q ≤ 64
    let zOk := 1024 ≤ z ∧ z ≤ 8192 ∧ z % 512 = 0
    (¬ pOk → exec (.setLink f) s = .next (s.answered f 0x01 (.badField 1) .none))
      ∧ (pOk → ¬ qOk → exec (.setLink f) s = .next (s.answered f 0x01 (.badField 2) .none))
      ∧ (pOk → qOk → ¬ zOk → exec (.setLink f) s = .next (s.answered f 0x01 (.badField 3) .none))
      ∧ (pOk → qOk → zOk → 60000 < w →
        exec (.setLink f) s = .next (s.answered f 0x01 (.badField 4) .none))
      ∧ (pOk → qOk → zOk → w ≤ 60000 →
        exec (.setLink f) s = .next ((State.startStall { s.taking with settings :=
          { pictureLimit := p, smallLimit := q, egressPayload := z, stallTimeout := w } }).reply
            f.tag 0x01 .done .none))

/-- R22, R24, R25: the order of LOAD PROFILE's checks, and the record it stores, with every field
read at its place in R166's profile layout. The return direction may first begin a frame (assumption
5). -/
def Obligations.LoadProfileStoresOrRefuses : Prop :=
  ∀ (f : DirectiveFrame) (s : State), s.Hands f → f.payload.bytes.length = 92 →
    let b := f.payload.bytes
    let valid := (byteAt b 1).toNat
    let at1 := fun o : Nat => (byteAt b o).toNat
    let at2 := fun o : Nat => beNat (field b o 2)
    let at4 := fun o : Nat => beNat (field b o 4)
    let rendition := fun o : Nat => ({
      width := at2 o, height := at2 (o + 2), bitrate := at4 (o + 4), window := at1 (o + 8)
      qnom := at1 (o + 9), qmin := at1 (o + 10), qmax := at1 (o + 11), gain := at1 (o + 12)
      keyOffset := at1 (o + 13), cap := at2 (o + 14) } : RenditionSpec)
    let record : Profile :=
      { valid := decide (valid = 1), count := at1 2, audioEnabled := at1 3
        segmentTicks := at4 4, minimumTicks := at4 8, intervalHint := at4 12
        renditions := #v[rendition 16, rendition 32, rendition 48, rendition 64]
        initialGain := at2 80, maximumGain := at2 82, high := at2 84, low := at2 86
        quietRun := at1 88 }
    (16 ≤ (byteAt b 0).toNat →
        exec (.loadProfile f) s = .next (s.answered f 0x03 (.badField 0) .none))
      ∧ ∀ p : ProfileId, (byteAt b 0).toNat = p.val →
        let inUse := ∃ ch, (s.channel ch).state ≠ .closed ∧ (s.channel ch).profile = p
        let stored : State := { s.taking with profiles := s.profiles.set p record }
        (inUse → exec (.loadProfile f) s = .next (s.answered f 0x03 .inUse .none))
          ∧ (¬ inUse → 2 ≤ valid →
            exec (.loadProfile f) s = .next (s.answered f 0x03 (.badField 1) .none))
          ∧ (¬ inUse → valid = 0 →
            exec (.loadProfile f) s = .next (stored.reply f.tag 0x03 .done .none))
          ∧ (¬ inUse → valid = 1 → ∀ n, record.firstBad = some n →
            exec (.loadProfile f) s = .next (s.answered f 0x03 (.badField n) .none))
          ∧ (¬ inUse → valid = 1 → record.firstBad = none →
            exec (.loadProfile f) s = .next (stored.reply f.tag 0x03 .done .none))

/-- R27, R33, R57, R17, R102, R154: the six queries answer DONE with what they name as it stands, W0
shown as an active window with a full mask, or BAD_FIELD 0 for an object number out of range, and
change nothing else. The return direction may first begin a frame (assumption 5). -/
def Obligations.QueriesAnswerAndChangeNothing : Prop :=
  ∀ (f : DirectiveFrame) (s : State), s.Hands f → f.payload.bytes.length = 4 →
    let n := (byteAt f.payload.bytes 0).toNat
    (exec (.queryPart f) s = .next (s.answered f 0x02 .done (.part
        { part := s.hold.part, ingestLink := s.ingest.link, egressLink := s.egress.link,
          stalled := s.egress.stalled, matchFlags := s.matchFlags,
          busyDecode := (s.decode.engines.toList.filter (fun e => e != .idle)).length,
          busyEncode := (s.encode.toList.filter (fun e => e != .idle)).length,
          settings := s.settings, freeCount := s.pool.free.length,
          reservedCount := s.pool.reserved.length, decodeDepth := s.decode.queue.length,
          jobDepth := s.jobs.length, reservedBytes := s.egress.reservedBytes,
          queuedBytes := s.egress.queuedBytes, counters := s.ingest.counters })))
      ∧ (exec (.readFaultLog f) s = .next (s.answered f 0x0E .done (.faults s.faults)))
      ∧ (∀ p : ProfileId, n = p.val →
        exec (.readProfile f) s = .next (s.answered f 0x04 .done (.profile p s.profiles[p])))
      ∧ (16 ≤ n → exec (.readProfile f) s = .next (s.answered f 0x04 (.badField 0) .none))
      ∧ (∀ w : WindowId, n = w.val →
        exec (.readWindow f) s = .next (s.answered f 0x06 .done (.window w
          (if w = 0 then
            { active := true, value := 0, mask := BitVec.allOnes 24, profile := s.windows[w].profile,
              cls := s.windows[w].cls }
          else s.windows[w]))))
      ∧ (7 ≤ n → exec (.readWindow f) s = .next (s.answered f 0x06 (.badField 0) .none))
      ∧ (∀ m : MarkerId, n = m.val →
        exec (.readMarker f) s = .next (s.answered f 0x08 .done (.marker m s.markers[m])))
      ∧ (4 ≤ n → exec (.readMarker f) s = .next (s.answered f 0x08 (.badField 0) .none))
      ∧ (∀ ch : ChannelId, n = ch.val →
        exec (.queryChannel f) s = .next (s.answered f 0x0D .done (.channel
          { state := (s.channel ch).state, cls := (s.channel ch).cls,
            depth := (s.channel ch).segments.length, counters := (s.channel ch).counters,
            renditions := [0, 1, 2, 3].map (fun r => ((s.channel ch).contexts[r]?).map
              (fun x => (x.fullness, x.lastQI))),
            profile := (s.channel ch).profile, course := (s.channel ch).course })))
      ∧ (32 ≤ n → exec (.queryChannel f) s = .next (s.answered f 0x0D (.badField 0) .none))

/-- R31: the order of LOAD WINDOW's checks, and the window it stores. Of W0 only the profile index
and the class are stored. The return direction may first begin a frame (assumption 5). -/
def Obligations.LoadWindowStoresOrRefuses : Prop :=
  ∀ (f : DirectiveFrame) (s : State), s.Hands f → f.payload.bytes.length = 12 →
    let b := f.payload.bytes
    let active := (byteAt b 1).toNat
    let profile := (byteAt b 2).toNat
    let cls := (byteAt b 3).toNat
    let profileOk := profile < 16 ∨ profile = 255
    (7 ≤ (byteAt b 0).toNat →
        exec (.loadWindow f) s = .next (s.answered f 0x05 (.badField 0) .none))
      ∧ ∀ w : WindowId, (byteAt b 0).toNat = w.val →
        (w ≠ 0 → 2 ≤ active →
            exec (.loadWindow f) s = .next (s.answered f 0x05 (.badField 1) .none))
          ∧ ((w = 0 ∨ active ≤ 1) → ¬ profileOk →
            exec (.loadWindow f) s = .next (s.answered f 0x05 (.badField 4) .none))
          ∧ ((w = 0 ∨ active ≤ 1) → profileOk → 4 ≤ cls →
            exec (.loadWindow f) s = .next (s.answered f 0x05 (.badField 5) .none))
          ∧ ((w = 0 ∨ active ≤ 1) → profileOk → ∀ c : Fin 4, cls = c.val →
            ∀ stored : Option ProfileId,
            (stored.map (fun p => p.val)).getD 255 = profile →
            let new : Window :=
              if w = 0 then { s.windows[w] with profile := stored, cls := c }
              else { active := decide (active = 1), value := BitVec.ofNat 24 (beNat (field b 4 3)),
                     mask := BitVec.ofNat 24 (beNat (field b 7 3)), profile := stored, cls := c }
            exec (.loadWindow f) s =
              .next ((State.reply { s.taking with windows := s.windows.set w new })
                f.tag 0x05 .done .none))

/-- R56: the order of LOAD MARKER's checks, and the record it stores whole. The return direction may
first begin a frame (assumption 5). -/
def Obligations.LoadMarkerStoresOrRefuses : Prop :=
  ∀ (f : DirectiveFrame) (s : State), s.Hands f → f.payload.bytes.length = 20 →
    let b := f.payload.bytes
    let enabled := (byteAt b 1).toNat
    let fieldCode := (byteAt b 5).toNat
    let action := (byteAt b 6).toNat
    let report := (byteAt b 7).toNat
    let chapter := (byteAt b 8).toNat
    let bad := fun n => s.answered f 0x07 (.badField n) .none
    (4 ≤ (byteAt b 0).toNat → exec (.loadMarker f) s = .next (bad 0))
      ∧ ∀ m : MarkerId, (byteAt b 0).toNat = m.val →
        (2 ≤ enabled → exec (.loadMarker f) s = .next (bad 1))
          ∧ (enabled ≤ 1 → 3 ≤ fieldCode → exec (.loadMarker f) s = .next (bad 5))
          ∧ (enabled ≤ 1 → fieldCode ≤ 2 → 3 ≤ action → exec (.loadMarker f) s = .next (bad 8))
          ∧ (enabled ≤ 1 → fieldCode ≤ 2 → action ≤ 2 → 2 ≤ report →
            exec (.loadMarker f) s = .next (bad 9))
          ∧ (enabled ≤ 1 → fieldCode ≤ 2 → action ≤ 2 → report ≤ 1 → 2 ≤ chapter →
            exec (.loadMarker f) s = .next (bad 10))
          ∧ (enabled ≤ 1 → fieldCode ≤ 2 → action ≤ 2 → report ≤ 1 → chapter ≤ 1 →
            let record : Marker :=
              { enabled := decide (enabled = 1)
                kinds := (byteAt b 2).setWidth 3
                channelValue := (byteAt b 3).setWidth 5
                channelMask := (byteAt b 4).setWidth 5
                field := if fieldCode = 0 then .timestamp else if fieldCode = 1 then .flags else .code
                compareValue := BitVec.ofNat 32 (beNat (field b 12 4))
                compareMask := BitVec.ofNat 32 (beNat (field b 16 4))
                action := if action = 0 then .none else if action = 1 then .cutAt else .cutNext
                report := decide (report = 1)
                chapter := decide (chapter = 1) }
            exec (.loadMarker f) s =
              .next (State.reply { s.taking with markers := s.markers.set m record }
                f.tag 0x07 .done .none))

/-- R58 and R103: CLEAR MATCH clears the flags its body names and leaves the others, CLEAR FAULT LOG
empties the log, and neither changes anything else. The return direction may first begin a frame
(assumption 5). -/
def Obligations.ClearMatchAndClearFaultLog : Prop :=
  ∀ (f : DirectiveFrame) (s : State), s.Hands f → f.payload.bytes.length = 4 →
    (∃ flags : Vector Bool 4,
        exec (.clearMatch f) s =
            .next (State.reply { s.taking with matchFlags := flags } f.tag 0x09 .done .none)
          ∧ ∀ m : MarkerId, flags[m] =
            if (byteAt f.payload.bytes 0).getLsbD m.val = true then false else s.matchFlags[m])
      ∧ exec (.clearFaultLog f) s =
          .next (State.reply { s.taking with faults :=
            { soft := none, hard := none, correctable := 0, uncorrectable := 0 } }
              f.tag 0x0F .done .none)

/-! ### Channels (chapter 1) -/

/-- R2 and R30: the refusals of OPEN in their order. A refused OPEN changes nothing but the reply.
R8, R13: the refusals of CLOSE and ABORT, which change nothing but the reply. That a bad override's
field number is 2 follows R166 (assumption 20). The return direction may first begin a frame
(assumption 5). -/
def Obligations.ChannelDirectivesRefused : Prop :=
  (∀ (f : DirectiveFrame) (s : State), s.Hands f → f.payload.bytes.length = 8 →
      let b := f.payload.bytes
      let override := (byteAt b 1).toNat
      let window := chosenWindow s.windows (BitVec.ofNat 24 (beNat (field b 2 3)))
      (32 ≤ (byteAt b 0).toNat →
          exec (.openChannel f) s = .next (s.answered f 0x0A (.badField 0) .none))
        ∧ ((byteAt b 0).toNat < 32 → 16 ≤ override → override ≤ 254 →
          exec (.openChannel f) s = .next (s.answered f 0x0A (.badField 2) .none))
        ∧ ∀ ch : ChannelId, (byteAt b 0).toNat = ch.val → (override < 16 ∨ override = 255) →
          ((s.channel ch).state ≠ .closed →
              exec (.openChannel f) s = .next (s.answered f 0x0A .state .none))
            ∧ ((s.channel ch).state = .closed → override = 255 → window.profile = none →
              exec (.openChannel f) s = .next (s.answered f 0x0A .noProfile .none))
            ∧ ((s.channel ch).state = .closed → ∀ p : ProfileId,
              (override = p.val ∨ (override = 255 ∧ window.profile = some p)) →
              (s.profiles[p].valid = false →
                  exec (.openChannel f) s = .next (s.answered f 0x0A .noProfile .none))
                ∧ (s.profiles[p].valid = true → s.pool.free.length < s.profiles[p].count + 8 →
                  exec (.openChannel f) s = .next (s.answered f 0x0A .noSlots .none))))
    ∧ (∀ (f : DirectiveFrame) (s : State), s.Hands f → f.payload.bytes.length = 4 →
        let n := (byteAt f.payload.bytes 0).toNat
        (32 ≤ n →
            exec (.closeChannel f) s = .next (s.answered f 0x0B (.badField 0) .none)
              ∧ exec (.abortChannel f) s = .next (s.answered f 0x0C (.badField 0) .none))
          ∧ ∀ ch : ChannelId, n = ch.val →
            ((s.channel ch).state = .closed →
                exec (.closeChannel f) s = .next (s.answered f 0x0B .notOpen .none)
                  ∧ exec (.abortChannel f) s = .next (s.answered f 0x0C .notOpen .none))
              ∧ ((s.channel ch).state = .aborting →
                exec (.closeChannel f) s = .next (s.answered f 0x0B .state .none)
                  ∧ exec (.abortChannel f) s = .next (s.answered f 0x0C .state .none))
              ∧ ((s.channel ch).state = .draining →
                exec (.closeChannel f) s = .next (s.answered f 0x0B .state .none)))

/-- R3, R4, R30: an accepted OPEN: the channel record with the values of R3 and the class of the
chosen window, V reference slots taken from the head of the free list in rendition order, and
nothing else. The return direction may first begin a frame (assumption 5). -/
def Obligations.OpenTaken : Prop :=
  ∀ (f : DirectiveFrame) (s : State) (ch : ChannelId) (p : ProfileId),
    s.Hands f → f.payload.bytes.length = 8 →
    let b := f.payload.bytes
    let override := (byteAt b 1).toNat
    let course := BitVec.ofNat 24 (beNat (field b 2 3))
    let window := chosenWindow s.windows course
    let v := s.profiles[p].count
    (byteAt b 0).toNat = ch.val → (s.channel ch).state = .closed →
    (override = p.val ∨ (override = 255 ∧ window.profile = some p)) →
    s.profiles[p].valid = true → v ≤ 4 → v + 8 ≤ s.pool.free.length →
    ∃ (pool : SlotPool) (contexts : List RenditionContext),
      exec (.openChannel f) s = .next (State.reply { s.taking with
          pool := pool
          channels := s.channels.set ch
            { state := .running, course := course, profile := p, cls := window.cls, base := none,
              lastPicture := none, lastAudio := none, firstGood := false, pictureNumber := 0,
              lastDelta := s.profiles[p].intervalHint, nextCut := 0, cutPending := none,
              segments := [], preSegmentAudio := 0, contexts := contexts,
              leveller := { gain := s.profiles[p].initialGain, quietRun := 0 }, assembly := none,
              decodeInFlight := false, counters := ChannelCounters.zero } }
          f.tag 0x0A .done .none)
        ∧ pool.free = s.pool.free.drop v ∧ pool.reserved = s.pool.reserved
        ∧ (∀ j : SlotId, pool.slots[j] =
            if j ∈ s.pool.free.take v then { s.pool.slots[j] with state := .reference }
            else s.pool.slots[j])
        ∧ contexts.length = v
        ∧ ∀ r : Fin 4, r.val < v → ∃ slot, s.pool.free[r.val]? = some slot
          ∧ contexts[r.val]? = some
            { reference := slot, referenceValid := false,
              fullness := s.profiles[p].renditions[r].bitrate * s.profiles[p].renditions[r].window / 2,
              skipPending := false, dims := none, lastQI := none, inFlight := false }

/-- R9 and R94: CLOSE on a RUNNING channel: it becomes DRAINING, a partial picture is discarded, its
slot freed to the tail and units lost +1, and everything else is left in place. The return direction
may first begin a frame (assumption 5). -/
def Obligations.CloseTaken : Prop :=
  ∀ (f : DirectiveFrame) (s : State) (ch : ChannelId), s.Hands f →
    f.payload.bytes.length = 4 → (byteAt f.payload.bytes 0).toNat = ch.val →
    (s.channel ch).state = .running →
    ((s.channel ch).assembly = none →
        exec (.closeChannel f) s = .next (State.reply { s.taking with
          channels := s.channels.set ch { s.channel ch with state := .draining } }
            f.tag 0x0B .done .none))
      ∧ ∀ part, (s.channel ch).assembly = some part →
        exec (.closeChannel f) s = .next (State.reply { s.taking with
          pool := s.pool.release part.slot
          channels := s.channels.set ch { s.channel ch with
            state := .draining, assembly := none
            counters := { (s.channel ch).counters with
              unitsLost := min 4294967295 ((s.channel ch).counters.unitsLost + 1) } } }
            f.tag 0x0B .done .none)

/-- R13, R15, R96: ABORT on a RUNNING or DRAINING channel, the whole next state. It frees, in this
order, the slot of a partial picture, those of the channel's decode queue entries, those of its held
pictures, and the source slots whose count falls to 0 as its QUEUED engine jobs are removed (a
removed skip job lowers no count, assumption 4). A partial picture counts one unit lost; RUNNING
jobs and a DECODING picture are marked abandoned; its segment entries, cut pending, pre-segment
audio bytes and small units go; and DONE is answered. With work of the channel left on an engine, or
without 64 bytes of room, it is then ABORTING. Otherwise the abort completes at once (assumption
16): the END record joins the egress queue, the reference slots are freed, the channel is CLOSED
(assumption 9) and CHANNEL CLOSED follows the reply. The return direction may first begin a frame
(assumption 5). -/
def Obligations.AbortTaken : Prop :=
  ∀ (f : DirectiveFrame) (s : State) (ch : ChannelId), s.Hands f →
    f.payload.bytes.length = 4 → (byteAt f.payload.bytes 0).toNat = ch.val →
    ((s.channel ch).state = .running ∨ (s.channel ch).state = .draining) →
    let c := s.channel ch
    let heldBy := fun e : DecodeEngineId =>
      match s.decode.engines[e] with
      | .holding pic => if pic.channel = ch then some pic else none
      | _ => none
    let freed := c.assembly.toList.map (fun part => part.slot)
      ++ (s.decode.queue.filter (fun d => d.channel = ch)).map (fun d => d.slot)
      ++ (List.finRange 2).filterMap (fun e =>
        (heldBy e).bind (fun pic => pic.source.map (fun src => src.slot)))
    let sources := (s.jobs.filter (fun j => j.channel = ch ∧ j.state = .queued ∧ j.skip = false)
      ).filterMap (fun j => j.source.map (fun src => src.slot))
    let drop := fun (p : SlotPool) (i : SlotId) =>
      match p.slots[i].state with
      | .source n => if n ≤ 1 then p.release i else p.mark i (.source (n - 1))
      | _ => p
    let pool := sources.foldl drop (freed.foldl SlotPool.release s.pool)
    let aborting : Channel := { c with
      state := .aborting, assembly := none, segments := [], cutPending := none, preSegmentAudio := 0
      decodeInFlight := c.decodeInFlight && (List.finRange 2).all (fun e => (heldBy e).isNone)
      counters := { c.counters with
        unitsLost := if c.assembly = none then c.counters.unitsLost
          else min 4294967295 (c.counters.unitsLost + 1) } }
    let left : State := { s.taking with
      channels := s.channels.set ch aborting
      pool := pool
      decode :=
        { queue := s.decode.queue.filter (fun d => d.channel ≠ ch)
          engines := Vector.ofFn (fun e => match s.decode.engines[e] with
            | .idle => .idle
            | .decoding d a => .decoding d (a || decide (d.channel = ch))
            | .holding pic => if pic.channel = ch then .idle else .holding pic)
          held := s.decode.held.filter (fun e => (heldBy e).isNone) }
      jobs := (s.jobs.filter (fun j => j.channel ≠ ch ∨ j.state ≠ .queued)).map (fun j =>
        match j.state with
        | .queued => j
        | .running record a => { j with state := .running record (a || decide (j.channel = ch)) })
      small := s.small.filter (fun x => x.channel ≠ ch) }
    let onEngine := aborting.decodeInFlight = true ∨ ∃ x ∈ c.contexts, x.inFlight = true
    let room := 64 ≤ 268435456 - (s.egress.reservedBytes + s.egress.queuedBytes)
    ((onEngine ∨ ¬ room) →
        exec (.abortChannel f) s = .next (left.reply f.tag 0x0C .done .none))
      ∧ (¬ onEngine → room →
        exec (.abortChannel f) s = .next ((State.reply { left with
          channels := s.channels.set ch { aborting with
            state := .closed, contexts := [], leveller := { gain := 0, quietRun := 0 } }
          pool := pool.releaseAll (c.contexts.map (fun x => x.reference))
          egress := { s.egress with
            queue := s.egress.queue ++ [.ended
              { channel := ch, outcome := .aborted, segments := c.counters.segmentsEmitted,
                pictures := c.pictureNumber, course := c.course, profile := c.profile }]
            queuedBytes := s.egress.queuedBytes + 64 } } f.tag 0x0C .done .none).raise
              (.channelClosed ch .aborted c.counters.segmentsEmitted c.pictureNumber)))

/-! ### Media frames (chapter 10) -/

/-- R142, R93, R5, R6: a credited FIRST or ONLY frame of a picture with a good payload on a RUNNING
channel. It spends the oldest RESERVED slot, which becomes FILLING with the payload at the start of
its compressed area, after any partial picture of the channel is discarded. FIRST leaves a partial
picture; ONLY completes the unit, which is accepted into the decode queue or dropped as late. The
return direction may first begin a frame (assumption 5). -/
def Obligations.PictureStartsUnit : Prop :=
  ∀ (f : MediaFrame) (s : State) (slot : SlotId) (rest : List SlotId),
    s.Delivers f.payload → PayloadGood f.payload → s.pool.reserved = slot :: rest →
    (s.channel f.channel).state = .running →
    let spent : State := { s.beginReturn with pool := { s.pool with reserved := rest } }
    let cleared := spent.discardPartial f.channel
    let filled : State := { cleared with pool := { cleared.pool with
      slots := cleared.pool.slots.set slot { cleared.pool.slots[slot] with
        state := .filling, compressed := f.payload.bytes } } }
    exec (.pictureStartFrame .first f) s = .next { filled with
        channels := filled.channels.set f.channel { filled.channel f.channel with
          assembly := some
            { slot := slot, bytes := f.payload.bytes.length, expected := f.sequence + 1,
              timestamp := f.timestamp.toNat, flags := f.flags } } }
      ∧ exec (.pictureStartFrame .only f) s =
          .next (filled.acceptPicture f.channel slot f.timestamp.toNat f.flags)

/-- R5 and R6: the acceptance of a completed picture. A channel with no base adopts the timestamp. A
picture below the base, or not above the last picture, is late: its slot is freed and counted.
Otherwise it joins the decode queue with its rebased timestamp and its Δt. R94: a partial picture
that is discarded: its slot is freed to the tail, the context is empty and units lost rises by 1. A
channel with no partial picture is left alone. -/
def Obligations.PicturesAcceptedOrLost : Prop :=
  (∀ (s : State) (ch : ChannelId) (slot : SlotId) (time : Nat) (flags : BitVec 16),
      let c := s.channel ch
      let base := c.base.getD time
      let late := time < base ∨ ∃ l, c.lastPicture = some l ∧ time ≤ l
      (late →
          s.acceptPicture ch slot time flags = { s with
            pool := s.pool.release slot
            channels := s.channels.set ch { c with
              base := some base
              counters := { c.counters with unitsLate := min 4294967295 (c.counters.unitsLate + 1) } } })
        ∧ (¬ late →
          s.acceptPicture ch slot time flags = { s with
            pool := s.pool.mark slot .decodeWait
            channels := s.channels.set ch { c with base := some base, lastPicture := some time }
            decode := { s.decode with queue := s.decode.queue ++
              [{ channel := ch, slot := slot, time := time - base,
                 delta := match c.lastPicture with
                   | none => (s.profileOf ch).intervalHint
                   | some l => min 96000 (time - l),
                 flags := flags }] } }))
    ∧ (∀ (s : State) (ch : ChannelId),
        ((s.channel ch).assembly = none → s.discardPartial ch = s)
          ∧ ∀ part, (s.channel ch).assembly = some part →
            s.discardPartial ch = { s with
              pool := s.pool.release part.slot
              channels := s.channels.set ch { s.channel ch with
                assembly := none
                counters := { (s.channel ch).counters with
                  unitsLost := min 4294967295 ((s.channel ch).counters.unitsLost + 1) } } })

/-- R143 and R94: a MIDDLE or LAST frame with a good payload against the partial picture of a
RUNNING channel: a wrong sequence or an oversize unit discards the partial; otherwise the payload is
appended, and LAST completes the picture. The return direction may first begin a frame (assumption
5). -/
def Obligations.PictureContinues : Prop :=
  ∀ (f : MediaFrame) (s : State) (part : PartialPicture),
    s.Delivers f.payload → PayloadGood f.payload →
    (s.channel f.channel).state = .running → (s.channel f.channel).assembly = some part →
    let total := part.bytes + f.payload.bytes.length
    let old := s.pool.slots[part.slot]
    let appended : State := { s.beginReturn with pool := { s.pool with
      slots := s.pool.slots.set part.slot
        { old with compressed := old.compressed ++ f.payload.bytes } } }
    ((f.sequence ≠ part.expected ∨ 1048576 < total) → ∀ p,
        exec (.pictureContinuationFrame p f) s =
          .next (s.beginReturn.discardPartial f.channel))
      ∧ (f.sequence = part.expected → total ≤ 1048576 →
        exec (.pictureContinuationFrame .middle f) s = .next { appended with
          channels := s.channels.set f.channel { s.channel f.channel with
            assembly := some { part with bytes := total, expected := part.expected + 1 } } })
      ∧ (f.sequence = part.expected → total ≤ 1048576 →
        exec (.pictureContinuationFrame .last f) s =
          .next (State.acceptPicture { appended with
            channels := s.channels.set f.channel { s.channel f.channel with assembly := none } }
              f.channel part.slot part.timestamp part.flags))

/-- R142, R5, R7, R114: a credited audio or cue unit in position ONLY with a good payload on a
RUNNING channel: it spends its credit and is dropped as late, or keeps its entry at the tail of the
small-unit buffer. The return direction may first begin a frame (assumption 5). -/
def Obligations.SmallUnitTakesAnEntry : Prop :=
  ∀ (k : SmallKind) (f : MediaFrame) (s : State),
    s.Delivers f.payload → PayloadGood f.payload → 0 < s.ingest.smallOutstanding →
    (s.channel f.channel).state = .running →
    let c := s.channel f.channel
    let time := f.timestamp.toNat
    let base := c.base.getD time
    let late := time < base ∨ (k = .audio ∧ ∃ l, c.lastAudio = some l ∧ time < l)
    let spent : State := { s.beginReturn with ingest := { s.beginReturn.ingest with
      smallOutstanding := s.ingest.smallOutstanding - 1 } }
    (late →
        exec (.smallUnitFrame k .only f) s = .next { spent with
          channels := s.channels.set f.channel { c with
            base := some base
            counters := { c.counters with unitsLate := min 4294967295 (c.counters.unitsLate + 1) } } })
      ∧ (¬ late →
        exec (.smallUnitFrame k .only f) s = .next { spent with
          channels := s.channels.set f.channel { c with
            base := some base
            lastAudio := if k = .audio then some time else c.lastAudio }
          small := s.small ++ [{ channel := f.channel, kind := k, timestamp := time,
                                 flags := f.flags, payload := f.payload.bytes }] })

/-- R143: the stray frames: every media frame with good checks on a channel that is not RUNNING, an
audio or cue frame in a position other than ONLY, a MIDDLE or LAST frame that finds no partial
picture, and a frame of kind none. The credit is spent, an oldest RESERVED slot is freed, stray
frames rises by 1, and nothing else changes. The return direction may first begin a frame
(assumption 5). -/
def Obligations.StrayFrames : Prop :=
  ∀ (f : MediaFrame) (s : State), s.Delivers f.payload → PayloadGood f.payload →
    let counted : IngestPort := { s.beginReturn.ingest with counters := { s.ingest.counters with
      stray := min 4294967295 (s.ingest.counters.stray + 1) } }
    let running := (s.channel f.channel).state = .running
    (∀ p slot rest, ¬ running → s.pool.reserved = slot :: rest →
        exec (.pictureStartFrame p f) s = .next { s.beginReturn with
          pool := { s.pool.release slot with reserved := rest }, ingest := counted })
      ∧ (∀ p, (¬ running ∨ (s.channel f.channel).assembly = none) →
        exec (.pictureContinuationFrame p f) s = .next { s.beginReturn with ingest := counted })
      ∧ (∀ k p, (¬ running ∨ p ≠ .only) → 0 < s.ingest.smallOutstanding →
        exec (.smallUnitFrame k p f) s = .next { s.beginReturn with
          ingest := { counted with smallOutstanding := s.ingest.smallOutstanding - 1 } })
      ∧ ∀ p, exec (.unitKindNoneFrame p f) s = .next { s.beginReturn with ingest := counted }

/-- R137: a media frame that needs a credit of a class with none unspent is dropped and counted as
uncredited, whatever its payload, and has no other effect. R144: a media frame whose payload is bad
is dropped and counted, and has spent its credit. A starting picture frame frees its RESERVED slot
first. On a RUNNING channel a picture frame discards the partial picture, and a frame that began a
unit loses it, units lost rising once for each. The return direction may first begin a frame
(assumption 5). -/
def Obligations.FramesDroppedForCreditOrPayload : Prop :=
  (∀ (f : MediaFrame) (s : State), s.Delivers f.payload →
      let counted : State := { s.beginReturn with ingest := { s.beginReturn.ingest with
        counters := { s.ingest.counters with
          uncredited := min 4294967295 (s.ingest.counters.uncredited + 1) } } }
      (s.pool.reserved = [] → ∀ p, exec (.pictureStartFrame p f) s = .next counted)
        ∧ (s.ingest.smallOutstanding = 0 → ∀ k p, exec (.smallUnitFrame k p f) s = .next counted))
    ∧ (∀ (f : MediaFrame) (s : State), s.Delivers f.payload → ¬ PayloadGood f.payload →
        let running := (s.channel f.channel).state = .running
        let counted : State := { s.beginReturn with ingest := { s.beginReturn.ingest with
          counters := { s.ingest.counters with
            payloadFailures := min 4294967295 (s.ingest.counters.payloadFailures + 1) } } }
        let lose : State → State := fun t => { t with
          channels := t.channels.set f.channel { t.channel f.channel with
            counters := { (t.channel f.channel).counters with
              unitsLost := min 4294967295 ((t.channel f.channel).counters.unitsLost + 1) } } }
        (∀ p slot rest, s.pool.reserved = slot :: rest →
            let freed : State := { counted with pool := { s.pool.release slot with reserved := rest } }
            exec (.pictureStartFrame p f) s =
              .next (if running then lose (freed.discardPartial f.channel) else freed))
          ∧ (∀ p, exec (.pictureContinuationFrame p f) s =
              .next (if running then counted.discardPartial f.channel else counted))
          ∧ (∀ k p, 0 < s.ingest.smallOutstanding →
            let spent : State := { counted with ingest := { counted.ingest with
              smallOutstanding := s.ingest.smallOutstanding - 1 } }
            exec (.smallUnitFrame k p f) s =
              .next (if running ∧ p = .only then lose spent else spent))
          ∧ ∀ p, exec (.unitKindNoneFrame p f) s = .next counted)

/-! ### The ingest link (R138 to R141, R145, R147) -/

/-- R145, R147, R20, R89: a header check failure and the loss of the link. Every partial picture is
discarded in channel order, its slot freed and units lost +1; then every RESERVED slot is freed,
oldest first, and every outstanding credit is void. A header check failure is counted and a reset
frame follows, the link staying UP; the loss of the link empties the return direction, keeps the
reports, and keeps the credits of directive frames already received (assumption 6). The return
direction may first begin a frame (assumption 5). -/
def Obligations.IngestLinkLoss : Prop :=
  ∀ (s : State), s.ingest.link = .up →
    let partials := (List.finRange 32).filterMap
      (fun ch => (s.channel ch).assembly.map (fun p => p.slot))
    let channels := Vector.ofFn (fun ch : ChannelId =>
      match (s.channel ch).assembly with
      | none => s.channel ch
      | some _ => { s.channel ch with
          assembly := none
          counters := { (s.channel ch).counters with
            unitsLost := min 4294967295 ((s.channel ch).counters.unitsLost + 1) } })
    let pool := { (s.pool.releaseAll partials).releaseAll s.pool.reserved with reserved := [] }
    (∀ header, forwardHeaderFails header = true →
        exec (.headerCheckFailure header) s = .next { s.beginReturn with
          channels := channels, pool := pool
          ingest := { s.beginReturn.ingest with
            smallOutstanding := 0, directiveUnspent := 0
            creditQueue := (if s.beginReturn.ingest.wire = .credit then s.ingest.creditQueue.take 1
              else []) ++ [.reset]
            counters := { s.ingest.counters with
              headerFailures := min 4294967295 (s.ingest.counters.headerFailures + 1) } } })
      ∧ ∀ n, exec (.ingestLinkDown n) s = .next { s with
          channels := channels, pool := pool
          ingest := { s.ingest with
            link := .down, smallOutstanding := 0, directiveUnspent := 0
            inHand := s.ingest.inHand + min n s.ingest.directiveUnspent
            creditQueue := [], wire := .idle } }

/-- R141, R147, R132: a link that comes UP. On the ingest link the reset frame goes first, ahead of
every grant and report; on the egress link the count stays as it is and nothing else changes. The
return direction may first begin a frame (assumption 5). -/
def Obligations.LinksComeUp : Prop :=
  ∀ s : State,
    (s.ingest.link = .down →
        exec .ingestLinkUp s = .next { s with ingest := { s.ingest with
          link := .up, creditQueue := [.reset], wire := .idle } })
      ∧ exec .egressLinkUp s = .next { s.beginReturn with egress := { s.egress with link := .up } }

/-- R138 and R92: PICTURE credits are granted to the smaller of the limit less the outstanding count
and the free count less 8, each taking the head of the free list into RESERVED, and none while the
link is DOWN, the part is not RUNNING, or either difference is 0. R139 and R140: SMALL credits are
granted to the smaller of the limit and the free entries, each less the outstanding count, while the
link is UP and the part RUNNING; DIRECTIVE credits to 32 less the queued reports and the held
credits, while the link is UP, in every part state. Where the condition does not hold the command
changes nothing else (assumption 2). -/
def Obligations.CreditsGranted : Prop :=
  (∀ s : State,
      let n := min (s.settings.pictureLimit - s.pool.reserved.length) (s.pool.free.length - 8)
      ((s.ingest.link = .down ∨ s.hold.part ≠ .running ∨ n = 0) →
          exec .pictureCreditGrant s = .next s)
        ∧ (s.ingest.link = .up → s.hold.part = .running → 0 < n →
          ∃ pool : SlotPool,
            exec .pictureCreditGrant s = .next { s with
                pool := pool
                ingest := { s.ingest with creditQueue := s.ingest.creditQueue ++ [.grant .picture n] } }
              ∧ pool.free = s.pool.free.drop n
              ∧ pool.reserved = s.pool.reserved ++ s.pool.free.take n
              ∧ ∀ j : SlotId, pool.slots[j] =
                if j ∈ s.pool.free.take n then { s.pool.slots[j] with state := .reserved }
                else s.pool.slots[j]))
    ∧ (∀ s : State,
        let n := min (s.settings.smallLimit - s.ingest.smallOutstanding)
          (128 - s.small.length - s.ingest.smallOutstanding)
        let d := 32 - (s.reports.queue.length + (s.ingest.directiveUnspent + s.ingest.inHand))
        ((s.ingest.link = .down ∨ s.hold.part ≠ .running ∨ n = 0) →
            exec .smallCreditGrant s = .next s)
          ∧ (s.ingest.link = .up → s.hold.part = .running → 0 < n →
            exec .smallCreditGrant s = .next { s with ingest := { s.ingest with
              creditQueue := s.ingest.creditQueue ++ [.grant .small n]
              smallOutstanding := s.ingest.smallOutstanding + n } })
          ∧ ((s.ingest.link = .down ∨ d = 0) → exec .directiveCreditGrant s = .next s)
          ∧ (s.ingest.link = .up → 0 < d →
            exec .directiveCreditGrant s = .next { s with ingest := { s.ingest with
              creditQueue := s.ingest.creditQueue ++ [.grant .directive d]
              directiveUnspent := s.ingest.directiveUnspent + d } }))

/-- R141 and R151: the return direction carries one frame at a time, a waiting CREDIT frame before a
waiting REPORT frame. A CREDIT frame that has been sent leaves its queue; a report leaves the report
queue when its frame has been sent, and one that a RESTART took out only clears the way. That an
idle direction begins the waiting frame with the command is the model's choice (assumption 5), and
that a frame of a report which RESTART took out stands for nothing is its reading of R162
(assumption 11). -/
def Obligations.ReturnFramesSent : Prop :=
  ∀ s : State, s.ingest.link = .up →
    (∀ g rest, s.ingest.creditQueue = g :: rest →
        (s.ingest.wire = .idle ∨ s.ingest.wire = .credit) →
        exec .creditFrameSent s = .next { s with ingest := { s.ingest with
          creditQueue := rest, wire := .idle } })
      ∧ (∀ r rest, s.reports.queue = r :: rest →
        ((s.ingest.wire = .idle ∧ s.ingest.creditQueue = []) ∨ s.ingest.wire = .report) →
        exec .reportFrameSent s = .next { s with
          ingest := { s.ingest with wire := .idle }
          reports := { s.reports with queue := rest } })
      ∧ (s.ingest.wire = .detached →
        exec .reportFrameSent s = .next { s with ingest := { s.ingest with wire := .idle } })

/-! ### Hold, restart and reset (chapter 12) -/

/-- R158, R148: HOLD's checks in their order, the rejection of a hold while a channel is finishing,
and the hold decided at once or left pending, its HOLD RESULT behind the reply. The EGRESS_EMPTY
flag kept once the hold is decided is the model's choice (assumption 10). The return direction may
first begin a frame (assumption 5). -/
def Obligations.HoldTaken : Prop :=
  ∀ (f : DirectiveFrame) (s : State), s.Hands f → f.payload.bytes.length = 4 →
    let b := f.payload.bytes
    let wait := beNat (field b 0 2)
    let empty := (byteAt b 2).toNat
    let reject := (byteAt b 3).toNat
    let closing := ∃ ch, (s.channel ch).state = .draining ∨ (s.channel ch).state = .aborting
    let idle := (∀ e : EncodeEngineId, s.encode[e].isBusy = false)
      ∧ (∀ e : DecodeEngineId, s.decode.engines[e].isDecoding = false)
      ∧ (empty = 1 → s.egress.queue = [])
    (10000 < wait → exec (.hold f) s = .next (s.answered f 0x10 (.badField 1) .none))
      ∧ (wait ≤ 10000 → 2 ≤ empty →
        exec (.hold f) s = .next (s.answered f 0x10 (.badField 2) .none))
      ∧ (wait ≤ 10000 → empty ≤ 1 → 2 ≤ reject →
        exec (.hold f) s = .next (s.answered f 0x10 (.badField 3) .none))
      ∧ (wait ≤ 10000 → empty ≤ 1 → reject ≤ 1 →
        (s.hold.part ≠ .running → exec (.hold f) s = .next (s.answered f 0x10 .state .none))
          ∧ (s.hold.part = .running → reject = 1 → closing →
            exec (.hold f) s = .next ((s.answered f 0x10 .done .none).raise
              (.holdResult (.rejected .channelClosing))))
          ∧ (s.hold.part = .running → (reject = 0 ∨ ¬ closing) →
            (idle →
                exec (.hold f) s = .next ((State.reply { s.taking with
                  hold := { part := .held, idleTimer := none, egressEmpty := decide (empty = 1) }
                  egress := { s.egress with stallTimer := none } } f.tag 0x10 .done .none).raise
                    (.holdResult .accepted)))
              ∧ (¬ idle → wait = 0 →
                exec (.hold f) s = .next ((State.reply (State.startStall { s.taking with
                  hold := { part := .running, idleTimer := none,
                            egressEmpty := decide (empty = 1) } }) f.tag 0x10 .done .none).raise
                    (.holdResult (.rejected .timeout))))
              ∧ (¬ idle → 0 < wait →
                exec (.hold f) s = .next (State.reply { s.taking with
                  hold := { part := .holdPending, idleTimer := some wait,
                            egressEmpty := decide (empty = 1) } } f.tag 0x10 .done .none))))

/-- R159, R161: how a pending hold ends. Idle decides it: the part enters HELD, both timers stopped,
and HOLD RESULT accepted is raised. The idle timer's expiry rejects it with TIMEOUT, and RELEASE
with RELEASED, behind its reply. RELEASE in HELD returns to RUNNING with no event, and in RUNNING it
is refused with STATE. The EGRESS_EMPTY flag kept once the hold is decided is the model's choice
(assumption 10). The return direction may first begin a frame (assumption 5). -/
def Obligations.HoldEnds : Prop :=
  ∀ (s : State),
    (s.settleHold =
        if s.hold.part = .holdPending ∧ (∀ e : EncodeEngineId, s.encode[e].isBusy = false)
            ∧ (∀ e : DecodeEngineId, s.decode.engines[e].isDecoding = false)
            ∧ (s.hold.egressEmpty = true → s.egress.queue = []) then
          State.raise { s with
            hold := { s.hold with part := .held, idleTimer := none }
            egress := { s.egress with stallTimer := none } } (.holdResult .accepted)
        else s)
      ∧ (let resumed := fun u : State =>
          State.startStall { u with hold := { s.hold with part := .running, idleTimer := none } }
        (s.hold.part = .holdPending → s.hold.idleTimer.isSome = true →
            exec .idleTimerExpiry s =
              .next ((resumed s.beginReturn).raise (.holdResult (.rejected .timeout))))
          ∧ ∀ f : DirectiveFrame, s.Hands f → f.payload.bytes.length = 4 →
            (s.hold.part = .running →
                exec (.release f) s = .next (s.answered f 0x11 .state .none))
              ∧ (s.hold.part = .holdPending →
                exec (.release f) s = .next (((resumed s.taking).reply f.tag 0x11 .done .none).raise
                  (.holdResult (.rejected .released))))
              ∧ (s.hold.part = .held →
                exec (.release f) s = .next ((resumed s.taking).reply f.tag 0x11 .done .none)))

/-- R162, R19, R75, R89, R113, R133, R147, R151: what RESTART leaves, and R163: what power-on reset
leaves. Neither clears a slot's areas, but an engine's unfinished write leaves free bytes
(assumption 29). The hold's kept EGRESS_EMPTY flag after either is the model's choice (assumption
10), as is the frame that goes to its end counted as no longer the queue's (assumption 11), and that
power-on reset keeps the waiting commands and counts the serial of free values on (assumption 18).
The return direction may first begin a frame (assumption 5). -/
def Obligations.RestartAndPowerOnReset : Prop :=
  let cleared := fun s : State => Vector.ofFn (fun i : SlotId => { s.pool.slots[i] with
    state := .free
    picture := if s.pool.slots[i].state = .decoding ∨ s.pool.slots[i].state = .recon then
        .unfinished s.freeSerial i
      else s.pool.slots[i].picture })
  (∀ (f : DirectiveFrame) (s : State), s.Hands f → f.payload.bytes.length = 4 →
      let u := s.taking
      let waiting := if u.ingest.wire = .report then s.reports.queue.tail else s.reports.queue
      exec (.restart f) s = .next (State.reply { u with
        hold := { part := .running, idleTimer := none, egressEmpty := false }
        matchFlags := Vector.replicate 4 false
        channels := Vector.replicate 32 Channel.cleared
        pool := { slots := cleared s, free := List.finRange 512, reserved := [] }
        decode := { queue := [], engines := Vector.replicate 2 .idle, held := [] }
        jobs := []
        encode := Vector.replicate 6 .idle
        small := []
        egress := { s.egress with
          reservedBytes := 0, queuedBytes := 0, queue := [], head := .unread
          wire := if s.egress.wire = .frame then .detached else s.egress.wire
          stalled := false, stallTimer := none }
        ingest := { u.ingest with
          smallOutstanding := 0, directiveUnspent := 0
          counters :=
            { stray := 0, uncredited := 0, payloadFailures := 0, headerFailures := 0 }
          creditQueue := if s.ingest.link = .up then
              (if u.ingest.wire = .credit then s.ingest.creditQueue.take 1 else []) ++ [.reset]
            else []
          wire := if u.ingest.wire = .report then .detached else u.ingest.wire }
        reports := { queue := [], lostPending := s.reports.lostPending || !waiting.isEmpty }
        freeSerial := s.freeSerial + 1 } f.tag 0x12 .done .none))
    ∧ ∀ s : State, exec .powerOnReset s = .next { State.reset with
        pool := { slots := cleared s, free := List.finRange 512, reserved := [] }
        freeSerial := s.freeSerial + 1
        pending := s.pending }

/-! ### The fault log (chapter 6) -/

/-- R97 to R101: what the report of a read does to the fault log, and when it raises MEMORY FAULT.
R99: once the hard record is filled, no command but CLEAR FAULT LOG and power-on reset changes it or
the soft record. -/
def Obligations.FaultLogRecordsReads : Prop :=
  (∀ (s : State) (r : FaultRecord),
      s.reportRead .clean r = s
        ∧ s.reportRead .correctable r = { s with faults := { s.faults with
            correctable := min 65535 (s.faults.correctable + 1)
            soft := if s.faults.hard = none then some r else s.faults.soft } }
        ∧ (s.faults.hard = none →
          s.reportRead .uncorrectable r = State.raise { s with faults := { s.faults with
            uncorrectable := min 255 (s.faults.uncorrectable + 1), hard := some r } } (.memoryFault r))
        ∧ (s.faults.hard ≠ none →
          s.reportRead .uncorrectable r = { s with faults := { s.faults with
            uncorrectable := min 255 (s.faults.uncorrectable + 1) } }))
    ∧ (∀ (c : Instr) (s t : State), exec c s = .next t → s.faults.hard.isSome = true →
        c ≠ .powerOnReset → (∀ f, c ≠ .clearFaultLog f) →
        t.faults.hard = s.faults.hard ∧ t.faults.soft = s.faults.soft)

/-! ### Egress (chapter 9) -/

/-- R125, R127, R132: the read of the head entry, reported and followed by a test of the stall
timer's conditions, and the beginning of a ready frame, which takes one credit and cuts the entry at
the payload size in force at its first frame (R126). A new head is read in any part state and on a
link UP or DOWN; a rewound one when sending resumes (R132), which the model reads as: exactly when a
frame could be begun, the link UP, the wire idle, a credit at hand and the part not HELD, and at any
other time the read changes nothing (assumption 8, DEDUCED). The data of a damaged entry is free
(assumption 14). Where the condition does not hold the command changes nothing else (assumption 2).
The return direction may first begin a frame (assumption 5). -/
def Obligations.HeadIsReadAndItsFramesBegin : Prop :=
  ∀ (s : State) (entry : EgressEntry) (rest : List EgressEntry), s.egress.queue = entry :: rest →
    let may := s.egress.link = .up ∧ s.egress.wire = .idle ∧ s.hold.part ≠ .held
      ∧ 1 ≤ s.egress.credits
    (∀ o (begun : Bool), ((s.egress.head = .unread ∧ begun = false)
          ∨ (s.egress.head = .rewound ∧ may ∧ begun = true)) →
        let t := s.beginReturn.reportRead o
          { source := .egressRead, channel := entry.channel, rendition := entry.rendition,
            slot := none }
        exec (.egressRead o) s = .next (State.startStall { t with
          egress := { s.egress with
            head := .read (if o = .uncorrectable then some s.freeSerial else none) begun none 0 }
          freeSerial := s.freeSerial + 1 }))
      ∧ (∀ o, s.egress.head = .rewound → ¬ may → exec (.egressRead o) s = .next s.beginReturn)
      ∧ ∀ damage begun cut sent, s.egress.head = .read damage begun cut sent →
        (may → exec .egressFrameBegin s = .next { s.beginReturn with egress := { s.egress with
            wire := .frame, credits := s.egress.credits - 1
            head := .read damage true (some (cut.getD s.settings.egressPayload)) sent } })
          ∧ (¬ may → exec .egressFrameBegin s = .next s.beginReturn)

/-- R126, R127, R128, R165: an entry cut at payload size p goes as frames whose payloads, in order,
are its data as read: each but the last p bytes, the last the remainder. Each frame carries the
header fields of R126's table, its position, the damaged mark of the read, its payload's length and
both checks (R164). The bytes of a coded or a damaged entry are free (assumptions 13, 14), and a
coded unit that is a skip picture has 16 bytes at most (R67). A frame that has been sent leaves the
entry at the head until it was the last; then the entry and its size leave, and the next is the
head. The return direction may first begin a frame (assumption 5). -/
def Obligations.EntriesAreSentWhole : Prop :=
  (∀ (e : EgressEntry) (damage : Option Nat) (p : Nat), 0 < p → 1 ≤ e.size →
      (∀ tag n, e = .coded tag n .skipPicture → n ≤ 16) →
      let data := e.asRead damage
      let n := (e.size + p - 1) / p
      let (kind, channel, rendition, key, segment, time) :
          Nat × ChannelId × Nat × Bool × Nat × Nat := match e with
        | .coded tag _ _ => (5, tag.channel, tag.rendition, tag.key, tag.segment, tag.time)
        | .skip tag => (5, tag.channel, tag.rendition, false, tag.segment, tag.time)
        | .audio tag _ => (5, tag.channel, tag.rendition, tag.key, tag.segment, tag.time)
        | .segment r => (6, r.channel, 0, false, r.number, r.start)
        | .ended r => (6, r.channel, 0, false, 0, 0)
      data.length = e.size
        ∧ (List.range n).flatMap (fun k => (e.frame damage p k).payload) = data
        ∧ ∀ k, k < n →
          let x := e.frame damage p k
          let position := if n = 1 then 0 else if k = 0 then 1 else if k + 1 = n then 3 else 2
          x.header.length = 16
            ∧ (byteAt x.header 0).toNat = kind
            ∧ (byteAt x.header 1).toNat = channel.val
            ∧ (byteAt x.header 2).toNat = (rendition + 16 * position) % 256
            ∧ (byteAt x.header 3).toNat =
              (if key = true then 1 else 0) + (if damage = none then 0 else 2)
            ∧ beNat (field x.header 4 4) = segment % 4294967296
            ∧ beNat (field x.header 8 4) = time % 4294967296
            ∧ beNat (field x.header 12 2) = x.payload.length % 65536
            ∧ beNat (field x.header 14 2) = (crc16 (x.header.take 14)).toNat
            ∧ x.check = crc32 x.payload
            ∧ x.payload.length = if k + 1 < n then p else e.size - p * (n - 1))
    ∧ ∀ (s : State) (entry : EgressEntry) (rest : List EgressEntry) (damage : Option Nat)
      (begun : Bool) (p sent : Nat),
      s.egress.queue = entry :: rest → s.egress.wire = .frame →
      s.egress.head = .read damage begun (some p) sent →
      s.egressFrame = some (entry.frame damage p sent)
        ∧ (sent + 1 < (entry.size + p - 1) / p →
          exec .egressFrameSent s = .next (State.startStall { s.beginReturn with
            egress := { s.egress with
              wire := .idle, head := .read damage begun (some p) (sent + 1) } }))
        ∧ ((entry.size + p - 1) / p ≤ sent + 1 →
          exec .egressFrameSent s = .next (State.startStall (State.settleHold { s.beginReturn with
            egress := { s.egress with
              queue := rest, queuedBytes := s.egress.queuedBytes - entry.size
              head := .unread, wire := .idle } })))

/-- R129, R130, R132, R133: a credit frame with good checks and an increment of 1 or more, which
also stops the stall timer and clears stalled, and any other frame, which changes nothing, one whose
payload is not of 4 bytes among them (assumption 28); the stall timer's expiry; the loss of the
egress link, which rewinds a head that has had a frame begun, before an earlier loss or since; and
the end of a frame begun before a RESTART. The return direction may first begin a frame (assumption
5). -/
def Obligations.EgressCreditsStallsAndLoss : Prop :=
  ∀ s : State,
    (∀ f : RawFrame, s.egress.link = .up → f.header.length = 16 →
        let good := beNat (field f.header 14 2) = (crc16 (f.header.take 14)).toNat
          ∧ f.check = crc32 f.payload ∧ byteAt f.header 0 = 0x07#8
          ∧ beNat (field f.header 12 2) = 4 ∧ f.payload.length = 4
        let n := (byteAt f.header 3).toNat
        (good → 1 ≤ n →
            exec (.egressCredit f) s = .next { s.beginReturn with egress := { s.egress with
              credits := min 255 (s.egress.credits + n), stallTimer := none, stalled := false } })
          ∧ ((¬ good ∨ n = 0) → exec (.egressCredit f) s = .next s.beginReturn))
      ∧ (s.egress.stallTimer.isSome = true →
        exec .stallTimerExpiry s = .next (State.raise { s.beginReturn with
          egress := { s.egress with stallTimer := none, stalled := true } }
            (.egressStall s.egress.queuedBytes s.egress.link)))
      ∧ (s.egress.link = .up →
        exec .egressLinkDown s = .next (State.startStall { s.beginReturn with
          egress := { s.egress with
            link := .down, credits := 0, wire := .idle
            head := match s.egress.head with
              | .read _ true _ _ => .rewound
              | h => h } }))
      ∧ (s.egress.wire = .detached →
        exec .egressFrameSent s = .next (State.startStall { s.beginReturn with
          egress := { s.egress with wire := .idle } }))

/-! ### Decoding and the segmenter (chapters 3 and 7) -/

/-- R107: a decode dispatch starts the oldest entry whose channel has no decode in flight on the
lowest-numbered IDLE engine; there is none while the part is not RUNNING, no engine is IDLE or no
such entry waits. Where the condition does not hold the command changes nothing else (assumption 2).
The return direction may first begin a frame (assumption 5). -/
def Obligations.DecodeDispatchStartsTheOldest : Prop :=
  ∀ s : State,
    (∀ (e : DecodeEngineId) (older : List DecodeEntry) (d : DecodeEntry) (younger : List DecodeEntry),
        s.hold.part = .running → s.decode.engines[e] = .idle →
        (∀ g : DecodeEngineId, g < e → s.decode.engines[g] ≠ .idle) →
        s.decode.queue = older ++ d :: younger →
        (∀ x ∈ older, (s.channel x.channel).decodeInFlight = true) →
        (s.channel d.channel).decodeInFlight = false →
        exec .decodeDispatch s = .next { s.beginReturn with
          pool := s.pool.mark d.slot .decoding
          channels := s.channels.set d.channel
            { s.channel d.channel with decodeInFlight := true }
          decode := { s.decode with
            queue := older ++ younger
            engines := s.decode.engines.set e (.decoding d false) } })
      ∧ ((s.hold.part ≠ .running ∨ (∀ e : DecodeEngineId, s.decode.engines[e] ≠ .idle)
          ∨ ∀ x ∈ s.decode.queue, (s.channel x.channel).decodeInFlight = true) →
        exec .decodeDispatch s = .next s.beginReturn)

/-- R108 to R111, R37, R38: the completion of a decode. Its read is reported first. A header that
passes has the slot's picture area written, whatever became of the channel: with the picture at the
header's size, or, the decode failing after all, with free bytes (assumption 29). On a channel being
aborted the slot is freed. Otherwise a good picture is handed over with its header's size, and a
failed one frees its slot, counts a concealed picture and is handed over without one; a concealed
picture before the first good one is dropped; any other is taken when V job-queue entries are free
and held when not. The return direction may first begin a frame (assumption 5). -/
def Obligations.DecodeCompletes : Prop :=
  ∀ (s : State) (e : DecodeEngineId) (o : ReadOutcome) (decodable : Bool) (d : DecodeEntry)
    (abandoned : Bool), s.decode.engines[e] = .decoding d abandoned →
    let bytes := s.pool.slots[d.slot].compressed
    let width := beNat (field bytes 0 2)
    let height := beNat (field bytes 2 2)
    let coded := beNat (field bytes 4 4)
    let header := 16 ≤ bytes.length ∧ 160 ≤ width ∧ width ≤ 1920 ∧ 96 ≤ height ∧ height ≤ 1080
      ∧ 1 ≤ coded ∧ coded ≤ bytes.length - 16
    let good := header ∧ o ≠ .uncorrectable ∧ decodable = true
    let logged := s.beginReturn.reportRead o
      { source := .decodeRead, channel := d.channel, rendition := none, slot := some d.slot }
    let read : State := if header then { logged with
        pool := { s.pool with slots := s.pool.slots.set d.slot { s.pool.slots[d.slot] with
          picture := if good then .decoded s.freeSerial width height
            else .unfinished s.freeSerial d.slot } }
        freeSerial := s.freeSerial + 1 }
      else logged
    let live := ((s.channel d.channel).state = .running ∨ (s.channel d.channel).state = .draining)
      ∧ abandoned = false
    let room := s.jobs.length + s.profiles[(s.channel d.channel).profile].count ≤ 256
    let done := fun t : State => State.settleHold { t with
      channels := t.channels.set d.channel { t.channel d.channel with decodeInFlight := false }
      decode := { t.decode with engines := t.decode.engines.set e .idle } }
    let held := fun (t : State) (pic : DecodedPicture) => State.settleHold { t with
      decode := { t.decode with
        engines := t.decode.engines.set e (.holding pic), held := t.decode.held ++ [e] } }
    let goodPicture : DecodedPicture :=
      { channel := d.channel, time := d.time, delta := d.delta, flags := d.flags,
        source := some { slot := d.slot, width := width, height := height } }
    let concealedPicture : DecodedPicture := { goodPicture with source := none }
    let concealed : State := { read with
      pool := read.pool.release d.slot
      channels := s.channels.set d.channel { s.channel d.channel with
        counters := { (s.channel d.channel).counters with
          picturesConcealed := min 4294967295 ((s.channel d.channel).counters.picturesConcealed + 1) } } }
    (¬ live → exec (.decodeCompletion e o decodable) s =
        .next (done { read with pool := read.pool.release d.slot }))
      ∧ (live → good → room → exec (.decodeCompletion e o decodable) s =
        .next (done (read.takePicture goodPicture)))
      ∧ (live → good → ¬ room → exec (.decodeCompletion e o decodable) s =
        .next (held { read with pool := read.pool.mark d.slot .holding } goodPicture))
      ∧ (live → ¬ good → (s.channel d.channel).firstGood = false →
        exec (.decodeCompletion e o decodable) s = .next (done { concealed with
          channels := concealed.channels.set d.channel
            { concealed.channel d.channel with lastDelta := d.delta } }))
      ∧ (live → ¬ good → (s.channel d.channel).firstGood = true → room →
        exec (.decodeCompletion e o decodable) s =
          .next (done (concealed.takePicture concealedPicture)))
      ∧ (live → ¬ good → (s.channel d.channel).firstGood = true → ¬ room →
        exec (.decodeCompletion e o decodable) s = .next (held concealed concealedPicture))

/-- R38 to R47: the segmenter takes a picture, at its decode's completion or from the engine that
held it longest once V entries are free. It records Δt and the picture number, has the markers
evaluate the picture, decides the cut, joins the picture to the OPEN entry, creates its V jobs in
rendition order and sets the source slot's reference count. Where the condition does not hold the
command changes nothing else (assumption 2). The widths at which the picture count and the byte
count saturate are read from R168 (assumption 17). The return direction may first begin a frame
(assumption 5). -/
def Obligations.SegmenterTakesPicture : Prop :=
  (∀ (s : State) (pic : DecodedPicture),
      let before := s.channel pic.channel
      let p := s.profiles[before.profile]
      let t := pic.time
      let m := State.evaluateMarkers { s with
          channels := s.channels.set pic.channel { before with
            lastDelta := pic.delta, pictureNumber := min 4294967295 (before.pictureNumber + 1) } }
        { channel := pic.channel, kind := .picture, time := t, flags := pic.flags, code := 0 }
      let c := m.channel pic.channel
      let good := pic.source.isSome = true
      ∃ (cut : Bool) (c' : Channel) (older : List SegmentEntry) (current : Option SegmentEntry)
        (jobs : List Job),
        (c.firstGood = false → good → cut = true ∧
            c' = { c with
              firstGood := true
              nextCut := t + p.segmentTicks
              preSegmentAudio := 0
              segments := c.segments ++
                [{ number := 0, state := .opened, start := t, pictures := 0, outstanding := 0,
                   bytes := #v[0, 0, 0, 0, min 18446744073709551615 c.preSegmentAudio],
                   chapter := match c.cutPending with
                     | none => none
                     | some q => if q.notBefore ≤ t then
                         q.chapter.map (fun k => { marker := k, notBefore := q.notBefore })
                       else none }]
              cutPending := match c.cutPending with
                | none => none
                | some q => if q.notBefore ≤ t then none else some q })
          ∧ (c.firstGood = true → ∀ last, c.segments.getLast? = some last →
            let timed := c.nextCut ≤ t
            let marked := ∃ q, c.cutPending = some q ∧ q.notBefore ≤ t
              ∧ p.minimumTicks ≤ t - last.start
            ((timed ∨ marked) → good → c.segments.length < 4 → cut = true ∧
                (marked → c' = { c with
                  nextCut := t + p.segmentTicks
                  cutPending := none
                  segments := c.segments.dropLast ++
                    [{ last with state := .closing (t - last.start) },
                     { number := last.number + 1, state := .opened, start := t, pictures := 0,
                       outstanding := 0, bytes := #v[0, 0, 0, 0, 0],
                       chapter := c.cutPending.bind (fun q =>
                         q.chapter.map (fun k => { marker := k, notBefore := q.notBefore })) }] })
                  ∧ (¬ marked → c' = { c with
                    nextCut := t + p.segmentTicks
                    segments := c.segments.dropLast ++
                      [{ last with state := .closing (t - last.start) },
                       { number := last.number + 1, state := .opened, start := t, pictures := 0,
                         outstanding := 0, bytes := #v[0, 0, 0, 0, 0], chapter := none }] }))
              ∧ ((¬ (timed ∨ marked) ∨ ¬ good ∨ 4 ≤ c.segments.length) → cut = false ∧ c' = c))
          ∧ (c.firstGood = false → ¬ good → cut = false ∧ c' = c)
          ∧ c'.segments = older ++ current.toList ∧ (current = none → older = [])
          ∧ jobs = (List.range p.count).map (fun r =>
            { channel := pic.channel, rendition := r, picture := before.pictureNumber,
              segment := match current with
                | some e => e.number
                | none => 0,
              source := pic.source, time := t, delta := pic.delta, keyRequired := cut,
              skip := !pic.source.isSome || (!cut && match c'.contexts[r]? with
                | some x => x.skipPending
                | none => false),
              cls := c'.cls, state := .queued })
          ∧ s.takePicture pic = { m with
            channels := m.channels.set pic.channel { c' with
              segments := older ++ (current.map (fun e => { e with
                pictures := min 4294967295 (e.pictures + 1)
                outstanding := e.outstanding + p.count })).toList }
            jobs := m.jobs ++ jobs
            pool := match pic.source with
              | none => m.pool
              | some src =>
                if jobs.all (fun j => j.skip) = true then m.pool.release src.slot
                else m.pool.mark src.slot
                  (.source (jobs.filter (fun j => j.skip = false)).length) })
    ∧ ∀ (s : State) (e : DecodeEngineId) (rest : List DecodeEngineId) (pic : DecodedPicture),
      s.decode.held = e :: rest → s.decode.engines[e] = .holding pic →
      let room := s.jobs.length + s.profiles[(s.channel pic.channel).profile].count ≤ 256
      (¬ room → exec .takeHeldPicture s = .next s.beginReturn)
        ∧ (room →
          let t := s.beginReturn.takePicture pic
          exec .takeHeldPicture s = .next { t with
            channels := t.channels.set pic.channel
              { t.channel pic.channel with decodeInFlight := false }
            decode := { s.decode with engines := s.decode.engines.set e .idle, held := rest } })

/-! ### Jobs and engines (chapter 5) -/

/-- R76 to R79, R64 to R66: the start of an engine job. The selected job is the eligible engine job
of the highest class, and among those the oldest; it starts on the lowest-numbered idle engine when
its cap fits the store's room, with the recon slot from the head of the free list. A selected job
that does not fit starts nothing and lets no other start; nothing starts while the part is not
RUNNING, no engine is idle or no engine job is eligible. Where the condition does not hold the
command changes nothing else (assumption 2). The return direction may first begin a frame
(assumption 5). -/
def Obligations.EngineDispatch : Prop :=
  ∀ s : State,
    let eligible := fun (i : Nat) (k : Job) =>
      s.jobs[i]? = some k ∧ k.state = .queued ∧ k.skip = false
        ∧ (∀ (h : Nat) (x : Job), h < i → s.jobs[h]? = some x →
          x.channel = k.channel → x.rendition = k.rendition → x.state ≠ .queued)
        ∧ ∀ x ∈ s.jobs, x.channel = k.channel → x.rendition = k.rendition → x.state = .queued
    (∀ (e : EncodeEngineId) (i : Nat) (j : Job) (r : Fin 4) (src : SourcePicture)
        (ctx : RenditionContext),
        s.hold.part = .running → s.encode[e] = .idle →
        (∀ g : EncodeEngineId, g < e → s.encode[g] ≠ .idle) → eligible i j →
        (∀ h k, eligible h k → k.cls ≤ j.cls ∧ (k.cls = j.cls → i ≤ h)) →
        j.rendition = r.val → j.source = some src →
        (s.channel j.channel).contexts[r.val]? = some ctx →
        let c := s.channel j.channel
        let spec := s.profiles[c.profile].renditions[r]
        let cap := spec.cap * 1024
        let room := 268435456 - (s.egress.reservedBytes + s.egress.queuedBytes)
        let dims := spec.outputDims src.width src.height
        let key := j.keyRequired || !ctx.referenceValid || decide (ctx.dims ≠ some dims)
        let qi := spec.qualityIndex ctx.fullness key
        (room < cap → exec .engineDispatch s = .next s.beginReturn)
          ∧ ∀ recon rest, cap ≤ room → s.pool.free = recon :: rest →
            exec .engineDispatch s = .next { s.beginReturn with
              pool := { s.pool with
                free := rest
                slots := s.pool.slots.set recon { s.pool.slots[recon] with state := .recon } }
              channels := s.channels.set j.channel { c with
                contexts := c.contexts.set r.val { ctx with lastQI := some qi, inFlight := true } }
              jobs := s.jobs.set i { j with
                state := .running { engine := e, qi := qi, cap := cap, recon := recon,
                                    width := dims.1, height := dims.2, key := key } false }
              encode := s.encode.set e (.busy none none)
              egress := { s.egress with reservedBytes := s.egress.reservedBytes + cap } })
      ∧ ((s.hold.part ≠ .running ∨ (∀ e : EncodeEngineId, s.encode[e] ≠ .idle)
          ∨ ∀ i k, ¬ eligible i k) →
        exec .engineDispatch s = .next s.beginReturn)

/-- R80, R71, R48: the completion of an eligible skip job when the store has room for 16 bytes: skip
pending is cleared for a good picture, then the fullness takes 16 bytes, skip pictures rises by 1,
the skip unit is enqueued, the segment entry is updated and the job leaves the queue. Nothing else
changes; an engine job, a job that is not eligible, or one without room is not completed. Where the
condition does not hold the command changes nothing else (assumption 2). The width at which the
segment byte count saturates is read from R168 (assumption 17). The return direction may first begin
a frame (assumption 5). -/
def Obligations.SkipCompletion : Prop :=
  ∀ (s : State) (ch : ChannelId) (r : Fin 4),
    (∀ (older : List Job) (j : Job) (younger : List Job) (ctx : RenditionContext),
        s.jobs = older ++ j :: younger → j.channel = ch → j.rendition = r.val → j.state = .queued →
        (∀ x ∈ older, ¬ (x.channel = ch ∧ x.rendition = r.val)) →
        (∀ x ∈ younger, x.channel = ch → x.rendition = r.val → x.state = .queued) →
        (s.channel ch).contexts[r.val]? = some ctx →
        let c := s.channel ch
        let cleared : Channel :=
          if j.source.isSome = true then
            { c with contexts := c.contexts.set r.val { ctx with skipPending := false } }
          else c
        let after := cleared.updateFullness s.profiles[c.profile].renditions[r] r.val j.delta 16
        let may := s.hold.part = .running ∧ j.skip = true
          ∧ 16 ≤ 268435456 - (s.egress.reservedBytes + s.egress.queuedBytes)
        (may → exec (.skipCompletion ch r) s = .next { s.beginReturn with
            channels := s.channels.set ch { after with
              counters := { after.counters with
                skipPictures := min 4294967295 (after.counters.skipPictures + 1) }
              segments := c.segments.map (fun e =>
                if e.number = j.segment then
                  { e with
                    outstanding := e.outstanding - 1
                    bytes := e.bytes.set r.val
                      (min 18446744073709551615 (e.bytes[r.val] + 16)) }
                else e) }
            egress := { s.egress with
              queue := s.egress.queue ++ [.skip { channel := ch, rendition := r.val,
                                                  segment := j.segment, time := j.time,
                                                  key := false }]
              queuedBytes := s.egress.queuedBytes + 16 }
            jobs := older ++ younger })
          ∧ (¬ may → exec (.skipCompletion ch r) s = .next s.beginReturn))
      ∧ (((∀ x ∈ s.jobs, ¬ (x.channel = ch ∧ x.rendition = r.val))
          ∨ ∃ x ∈ s.jobs, x.channel = ch ∧ x.rendition = r.val ∧ x.state ≠ .queued) →
        exec (.skipCompletion ch r) s = .next s.beginReturn)

/-- R97 and R82: an engine's read of its job's source, and of its reference for a job not dispatched
key-required, each made at most once (assumption 12), is reported to the fault log with the job's
channel and rendition and the slot read, an abandoned job's as any other. An idle engine reads
nothing. Where the condition does not hold the command changes nothing else (assumption 2). The
return direction may first begin a frame (assumption 5). -/
def Obligations.EncodeEngineReads : Prop :=
  ∀ (s : State) (e : EncodeEngineId),
    (s.encode[e] = .idle → ∀ q o, exec (.encodeEngineRead e q o) s = .next s.beginReturn)
      ∧ ∀ (i : Nat) (j : Job) (record : DispatchRecord) (abandoned : Bool)
        (sourceRead referenceRead : Option ReadOutcome) (r : Fin 4) (ctx : RenditionContext)
        (src : SourcePicture),
        s.encode[e] = .busy sourceRead referenceRead →
        s.jobs[i]? = some j → j.state = .running record abandoned → record.engine = e →
        (∀ (k : Nat) (x : Job) (d : DispatchRecord) (b : Bool), s.jobs[k]? = some x →
          x.state = .running d b → d.engine = e → k = i) →
        j.rendition = r.val → (s.channel j.channel).contexts[r.val]? = some ctx →
        j.source = some src →
        let u := s.beginReturn
        let logged := fun (o : ReadOutcome) (source : ReadSource) (slot : SlotId) =>
          u.reportRead o
            { source := source, channel := j.channel, rendition := some r.val, slot := some slot }
        ∀ o,
          (sourceRead = none → exec (.encodeEngineRead e .source o) s =
              .next { logged o .encodeSource src.slot with
                encode := s.encode.set e (.busy (some o) referenceRead) })
            ∧ (referenceRead = none → record.key = false →
              exec (.encodeEngineRead e .reference o) s =
                .next { logged o .encodeReference ctx.reference with
                  encode := s.encode.set e (.busy sourceRead (some o)) })
            ∧ (sourceRead ≠ none → exec (.encodeEngineRead e .source o) s = .next u)
            ∧ ((referenceRead ≠ none ∨ record.key = true) →
              exec (.encodeEngineRead e .reference o) s = .next u)

/-- R83 to R85, R67 to R69, R48: a completion whose report R67 and R82 allow, the damage items as
the engine's reads ended: normal on a RUNNING or DRAINING channel for a job not abandoned, with the
fullness, the reference, the source slot's count, the egress store, the segment entry and the
in-flight flag as R84 says; abandoned otherwise, as R85 says. A pending hold may then be decided
(R159). Without source damage the engine has written its reconstruction into the recon slot's
picture area, and the coded unit is what it made of the source picture and, unless it is a key
picture, the reference picture it read (R81, free bytes, assumptions 13 and 29); with source damage
the unit has the bytes of a skip picture (assumption 24). The damage items are those of the reads
(assumption 12), and the segment byte count saturates at 64 bits (assumption 17). An idle engine
completes nothing, and any other report is no completion. Where the condition does not hold the
command changes nothing else (assumption 2). The return direction may first begin a frame
(assumption 5). -/
def Obligations.EncodeCompletions : Prop :=
  ∀ (s : State) (e : EncodeEngineId),
    (s.encode[e] = .idle → ∀ rep, exec (.encodeCompletion e rep) s = .next s.beginReturn)
      ∧ ∀ (i : Nat) (j : Job) (record : DispatchRecord) (abandoned : Bool)
        (sourceRead referenceRead : Option ReadOutcome) (r : Fin 4) (ctx : RenditionContext)
        (src : SourcePicture),
        s.encode[e] = .busy sourceRead referenceRead →
        s.jobs[i]? = some j → j.state = .running record abandoned → record.engine = e →
        (∀ (k : Nat) (x : Job) (d : DispatchRecord) (b : Bool), s.jobs[k]? = some x →
          x.state = .running d b → d.engine = e → k = i) →
        j.rendition = r.val → (s.channel j.channel).contexts[r.val]? = some ctx →
        j.source = some src →
        let c := s.channel j.channel
        let u := s.beginReturn
        ∀ rep : CompletionReport,
          let possible := 16 ≤ rep.size ∧ rep.size ≤ record.cap
            ∧ (rep.sourceDamaged = true ↔ sourceRead = some .uncorrectable)
            ∧ (rep.referenceDamaged = true ↔ referenceRead = some .uncorrectable)
            ∧ (rep.sourceDamaged = true → rep.size = 16 ∧ rep.key = false ∧ rep.capped = false)
            ∧ (rep.sourceDamaged = false → rep.key = (record.key || rep.referenceDamaged))
          let normal := (c.state = .running ∨ c.state = .draining) ∧ abandoned = false
          let dropped := fun p : SlotPool =>
            match p.slots[src.slot].state with
            | .source n =>
              if n ≤ 1 then p.release src.slot else p.mark src.slot (.source (n - 1))
            | _ => p
          let drawn : SlotPool := if rep.sourceDamaged = true then s.pool else { s.pool with
            slots := s.pool.slots.set record.recon { s.pool.slots[record.recon] with
              picture := .reconstructed s.freeSerial record.width record.height } }
          (¬ possible → exec (.encodeCompletion e rep) s = .next u)
            ∧ (possible → normal →
              let full := c.updateFullness s.profiles[c.profile].renditions[r] r.val j.delta rep.size
              let x := (full.contexts[r.val]?).getD ctx
              let tag : UnitTag :=
                { channel := j.channel, rendition := r.val, segment := j.segment, time := j.time,
                  key := rep.key }
              let content : CodedContent :=
                if rep.sourceDamaged = true then .skipPicture
                else .engine s.freeSerial s.pool.slots[src.slot].picture
                  (if rep.key = true then none else some s.pool.slots[ctx.reference].picture)
              exec (.encodeCompletion e rep) s = .next (State.settleHold { u with
                channels := s.channels.set j.channel { full with
                  contexts := full.contexts.set r.val
                    (if rep.sourceDamaged = true then { x with inFlight := false }
                      else
                        { x with
                          inFlight := false, reference := record.recon, referenceValid := true
                          dims := some (record.width, record.height) })
                  counters := { full.counters with
                    cappedPictures := if rep.capped = true then
                        min 4294967295 (full.counters.cappedPictures + 1)
                      else full.counters.cappedPictures }
                  segments := c.segments.map (fun y =>
                    if y.number = j.segment then
                      { y with
                        outstanding := y.outstanding - 1
                        bytes := y.bytes.set r.val
                          (min 18446744073709551615 (y.bytes[r.val] + rep.size)) }
                    else y) }
                pool := dropped
                  (if rep.sourceDamaged = true then drawn.release record.recon
                    else (drawn.mark record.recon .reference).release ctx.reference)
                egress := { s.egress with
                  reservedBytes := s.egress.reservedBytes - record.cap
                  queue := s.egress.queue ++ [.coded tag rep.size content]
                  queuedBytes := s.egress.queuedBytes + rep.size }
                jobs := s.jobs.eraseIdx i
                encode := s.encode.set e .idle
                freeSerial := s.freeSerial + 1 }))
            ∧ (possible → ¬ normal →
              exec (.encodeCompletion e rep) s = .next (State.settleHold { u with
                channels := s.channels.set j.channel { c with
                  contexts := c.contexts.set r.val { ctx with inFlight := false } }
                pool := dropped (drawn.release record.recon)
                egress := { s.egress with reservedBytes := s.egress.reservedBytes - record.cap }
                jobs := s.jobs.eraseIdx i
                encode := s.encode.set e .idle
                freeSerial := s.freeSerial + 1 }))

/-! ### Segment records and the ends of channels (chapters 1 and 3) -/

/-- R49: the oldest entry of a channel, once CLOSING with nothing outstanding and with 64 bytes of
room, leaves the table as a segment record at the tail of the egress queue. R11: a DRAINING channel
with no picture in decode and no unit in the small-unit buffer closes its OPEN entry with the
duration to the end of its last picture, and its cut pending becomes absent (R44). Where the
condition does not hold the command changes nothing else (assumption 2). The return direction may
first begin a frame (assumption 5). -/
def Obligations.SegmentsLeaveTheTable : Prop :=
  ∀ (s : State) (ch : ChannelId),
    let c := s.channel ch
    let u := s.beginReturn
    (∀ (e : SegmentEntry) (rest : List SegmentEntry), c.segments = e :: rest →
        let room := 268435456 - (s.egress.reservedBytes + s.egress.queuedBytes)
        (∀ duration, e.state = .closing duration → e.outstanding = 0 → 64 ≤ room →
            exec (.segmentRecord ch) s = .next { u with
              channels := s.channels.set ch { c with
                segments := rest
                counters := { c.counters with
                  segmentsEmitted := min 4294967295 (c.counters.segmentsEmitted + 1) } }
              egress := { s.egress with
                queue := s.egress.queue ++ [.segment
                  { channel := ch, number := e.number, start := e.start, duration := duration,
                    pictures := e.pictures, bytes := e.bytes, chapter := e.chapter }]
                queuedBytes := s.egress.queuedBytes + 64 } })
          ∧ ((e.state = .opened ∨ e.outstanding ≠ 0 ∨ room < 64) →
            exec (.segmentRecord ch) s = .next u))
      ∧ (c.segments = [] → exec (.segmentRecord ch) s = .next u
        ∧ exec (.finalSegmentClose ch) s = .next u)
      ∧ ∀ (older : List SegmentEntry) (last : SegmentEntry), c.segments = older ++ [last] →
        let due := c.state = .draining ∧ last.state = .opened ∧ c.decodeInFlight = false
          ∧ (∀ d ∈ s.decode.queue, d.channel ≠ ch) ∧ ∀ x ∈ s.small, x.channel ≠ ch
        (∀ picture base : Nat, due → c.lastPicture = some picture → c.base = some base →
            let duration := min 4294967295 (picture - base + c.lastDelta - last.start)
            exec (.finalSegmentClose ch) s = .next { u with
              channels := s.channels.set ch { c with
                cutPending := none
                segments := older ++ [{ last with state := .closing duration }] } })
          ∧ (¬ due → exec (.finalSegmentClose ch) s = .next u)

/-- R12 and R15: a DRAINING channel with nothing left, and an ABORTING one with nothing in flight,
becomes CLOSED once the store has 64 bytes of room: the END record joins the egress queue, the
reference slots are freed in rendition order, the cleared fields are as R12 and R59 say and the rest
of the record is kept (assumption 9), and CHANNEL CLOSED is raised. Until then nothing changes.
Where the condition does not hold the command changes nothing else (assumption 2). The return
direction may first begin a frame (assumption 5). -/
def Obligations.ChannelsComplete : Prop :=
  ∀ (s : State) (ch : ChannelId),
    let c := s.channel ch
    let u := s.beginReturn
    let room := 64 ≤ 268435456 - (s.egress.reservedBytes + s.egress.queuedBytes)
    let ended := fun outcome : ChannelOutcome =>
      State.raise { u with
        channels := s.channels.set ch { c with
          state := .closed, cutPending := none, segments := [], preSegmentAudio := 0, contexts := []
          leveller := { gain := 0, quietRun := 0 } }
        pool := s.pool.releaseAll (c.contexts.map (fun x => x.reference))
        egress := { s.egress with
          queue := s.egress.queue ++ [.ended
            { channel := ch, outcome := outcome, segments := c.counters.segmentsEmitted,
              pictures := c.pictureNumber, course := c.course, profile := c.profile }]
          queuedBytes := s.egress.queuedBytes + 64 } }
        (.channelClosed ch outcome c.counters.segmentsEmitted c.pictureNumber)
    let drained := c.state = .draining ∧ c.segments = [] ∧ c.decodeInFlight = false
      ∧ (∀ j ∈ s.jobs, j.channel ≠ ch) ∧ (∀ d ∈ s.decode.queue, d.channel ≠ ch)
      ∧ ∀ x ∈ s.small, x.channel ≠ ch
    let aborted := c.state = .aborting ∧ c.decodeInFlight = false
      ∧ ∀ x ∈ c.contexts, x.inFlight = false
    (drained → room → exec (.drainCompletion ch) s = .next (ended .completed))
      ∧ ((¬ drained ∨ ¬ room) → exec (.drainCompletion ch) s = .next u)
      ∧ (aborted → room → exec (.abortCompletion ch) s = .next (ended .aborted))
      ∧ ((¬ aborted ∨ ¬ room) → exec (.abortCompletion ch) s = .next u)

/-! ### The audio path (chapter 8) -/

/-- R115 to R120: the head of the small-unit buffer. A cue unit of 4 bytes has the markers evaluate
its code; of any other length it is discarded unevaluated. An audio unit is evaluated with code 0; a
malformed one, or one of a profile with audio off, is then discarded; any other is levelled, joins
the egress queue, is counted in its segment and adapts the leveller, once the store has room for it.
Each leaves the buffer. While the part is not RUNNING, or with the other kind at the head, nothing
happens. Where the condition does not hold the command changes nothing else (assumption 2). The
width at which the audio byte counts saturate is read from R168 (assumption 17). The return
direction may first begin a frame (assumption 5). -/
def Obligations.HeadSmallUnitIsProcessed : Prop :=
  ∀ (s : State) (unit : SmallUnit) (rest : List SmallUnit), s.small = unit :: rest →
    let c := s.channel unit.channel
    let p := s.profiles[c.profile]
    let time := unit.timestamp - c.base.getD 0
    let u := s.beginReturn
    let evaluated := fun (kind : UnitKind) (code : BitVec 32) => u.evaluateMarkers
      { channel := unit.channel, kind := kind, time := time, flags := unit.flags, code := code }
    let n := unit.payload.length
    let samples := samplesOf unit.payload
    let sends := p.audioEnabled = 1 ∧ n % 2 = 0 ∧ 32 ≤ n ∧ n ≤ 3840
    let room := n ≤ 268435456 - (s.egress.reservedBytes + s.egress.queuedBytes)
    (s.hold.part ≠ .running → exec .processAudioUnit s = .next u ∧ exec .processCueUnit s = .next u)
      ∧ (s.hold.part = .running → unit.kind = .cue → exec .processAudioUnit s = .next u
        ∧ (n = 4 → exec .processCueUnit s =
          .next { evaluated .cue (BitVec.ofNat 32 (beNat unit.payload)) with small := rest })
        ∧ (n ≠ 4 → exec .processCueUnit s = .next { u with small := rest }))
      ∧ (s.hold.part = .running → unit.kind = .audio → exec .processCueUnit s = .next u
        ∧ (¬ sends → exec .processAudioUnit s = .next { evaluated .audio 0 with small := rest })
        ∧ (sends → ¬ room → exec .processAudioUnit s = .next u)
        ∧ (sends → room →
          let m := evaluated .audio 0
          let d := m.channel unit.channel
          let counted := fun k : Nat =>
            min 18446744073709551615 (k + n)
          let levelled : Channel := { d with
            leveller := d.leveller.adapt p (peak c.leveller.gain samples)
            counters := { d.counters with
              clippedSamples :=
                min 4294967295 (d.counters.clippedSamples + clippedCount c.leveller.gain samples) } }
          samples.length = n / 2
            ∧ (∀ (older : List SegmentEntry) (last : SegmentEntry), c.segments = older ++ [last] →
              exec .processAudioUnit s = .next { m with
                small := rest
                channels := m.channels.set unit.channel { levelled with
                  segments := older ++ [{ last with
                    bytes := last.bytes.set 4 (counted last.bytes[4]) }] }
                egress := { s.egress with
                  queue := s.egress.queue ++ [.audio
                    { channel := unit.channel, rendition := 4, segment := last.number, time := time,
                      key := true } (samples.map (levelSample c.leveller.gain))]
                  queuedBytes := s.egress.queuedBytes + n } })
            ∧ (c.segments = [] →
              exec .processAudioUnit s = .next { m with
                small := rest
                channels := m.channels.set unit.channel { levelled with
                  preSegmentAudio := counted c.preSegmentAudio }
                egress := { s.egress with
                  queue := s.egress.queue ++ [.audio
                    { channel := unit.channel, rendition := 4, segment := 0, time := time,
                      key := true } (samples.map (levelSample c.leveller.gain))]
                  queuedBytes := s.egress.queuedBytes + n } })))
end

