-- ==== Sys2Proof/Laws/State.lean ====
section
/-! SUPPORT. Which fields of the state an update leaves alone: one lemma for each field and each shared
update, so that no later proof unfolds a record update to read a field it does not touch. -/

namespace Sys2Proof.Machine

variable (s : State)

/-! ### `State.modChannel` -/

@[simp] theorem State.modChannel_hold (ch : ChannelId) (f : Channel → Channel) :
    (s.modChannel ch f).hold = s.hold := rfl
@[simp] theorem State.modChannel_profiles (ch : ChannelId) (f : Channel → Channel) :
    (s.modChannel ch f).profiles = s.profiles := rfl
@[simp] theorem State.modChannel_windows (ch : ChannelId) (f : Channel → Channel) :
    (s.modChannel ch f).windows = s.windows := rfl
@[simp] theorem State.modChannel_markers (ch : ChannelId) (f : Channel → Channel) :
    (s.modChannel ch f).markers = s.markers := rfl
@[simp] theorem State.modChannel_matchFlags (ch : ChannelId) (f : Channel → Channel) :
    (s.modChannel ch f).matchFlags = s.matchFlags := rfl
@[simp] theorem State.modChannel_settings (ch : ChannelId) (f : Channel → Channel) :
    (s.modChannel ch f).settings = s.settings := rfl
@[simp] theorem State.modChannel_pool (ch : ChannelId) (f : Channel → Channel) :
    (s.modChannel ch f).pool = s.pool := rfl
@[simp] theorem State.modChannel_faults (ch : ChannelId) (f : Channel → Channel) :
    (s.modChannel ch f).faults = s.faults := rfl
@[simp] theorem State.modChannel_decode (ch : ChannelId) (f : Channel → Channel) :
    (s.modChannel ch f).decode = s.decode := rfl
@[simp] theorem State.modChannel_jobs (ch : ChannelId) (f : Channel → Channel) :
    (s.modChannel ch f).jobs = s.jobs := rfl
@[simp] theorem State.modChannel_encode (ch : ChannelId) (f : Channel → Channel) :
    (s.modChannel ch f).encode = s.encode := rfl
@[simp] theorem State.modChannel_small (ch : ChannelId) (f : Channel → Channel) :
    (s.modChannel ch f).small = s.small := rfl
@[simp] theorem State.modChannel_egress (ch : ChannelId) (f : Channel → Channel) :
    (s.modChannel ch f).egress = s.egress := rfl
@[simp] theorem State.modChannel_ingest (ch : ChannelId) (f : Channel → Channel) :
    (s.modChannel ch f).ingest = s.ingest := rfl
@[simp] theorem State.modChannel_reports (ch : ChannelId) (f : Channel → Channel) :
    (s.modChannel ch f).reports = s.reports := rfl
@[simp] theorem State.modChannel_freeSerial (ch : ChannelId) (f : Channel → Channel) :
    (s.modChannel ch f).freeSerial = s.freeSerial := rfl
@[simp] theorem State.modChannel_pending (ch : ChannelId) (f : Channel → Channel) :
    (s.modChannel ch f).pending = s.pending := rfl

/-! ### `State.count` -/

@[simp] theorem State.count_hold (ch : ChannelId) (f : ChannelCounters → ChannelCounters) :
    (s.count ch f).hold = s.hold := rfl
@[simp] theorem State.count_profiles (ch : ChannelId) (f : ChannelCounters → ChannelCounters) :
    (s.count ch f).profiles = s.profiles := rfl
@[simp] theorem State.count_windows (ch : ChannelId) (f : ChannelCounters → ChannelCounters) :
    (s.count ch f).windows = s.windows := rfl
@[simp] theorem State.count_markers (ch : ChannelId) (f : ChannelCounters → ChannelCounters) :
    (s.count ch f).markers = s.markers := rfl
@[simp] theorem State.count_matchFlags (ch : ChannelId) (f : ChannelCounters → ChannelCounters) :
    (s.count ch f).matchFlags = s.matchFlags := rfl
@[simp] theorem State.count_settings (ch : ChannelId) (f : ChannelCounters → ChannelCounters) :
    (s.count ch f).settings = s.settings := rfl
@[simp] theorem State.count_pool (ch : ChannelId) (f : ChannelCounters → ChannelCounters) :
    (s.count ch f).pool = s.pool := rfl
@[simp] theorem State.count_faults (ch : ChannelId) (f : ChannelCounters → ChannelCounters) :
    (s.count ch f).faults = s.faults := rfl
@[simp] theorem State.count_decode (ch : ChannelId) (f : ChannelCounters → ChannelCounters) :
    (s.count ch f).decode = s.decode := rfl
@[simp] theorem State.count_jobs (ch : ChannelId) (f : ChannelCounters → ChannelCounters) :
    (s.count ch f).jobs = s.jobs := rfl
@[simp] theorem State.count_encode (ch : ChannelId) (f : ChannelCounters → ChannelCounters) :
    (s.count ch f).encode = s.encode := rfl
@[simp] theorem State.count_small (ch : ChannelId) (f : ChannelCounters → ChannelCounters) :
    (s.count ch f).small = s.small := rfl
@[simp] theorem State.count_egress (ch : ChannelId) (f : ChannelCounters → ChannelCounters) :
    (s.count ch f).egress = s.egress := rfl
@[simp] theorem State.count_ingest (ch : ChannelId) (f : ChannelCounters → ChannelCounters) :
    (s.count ch f).ingest = s.ingest := rfl
@[simp] theorem State.count_reports (ch : ChannelId) (f : ChannelCounters → ChannelCounters) :
    (s.count ch f).reports = s.reports := rfl
@[simp] theorem State.count_freeSerial (ch : ChannelId) (f : ChannelCounters → ChannelCounters) :
    (s.count ch f).freeSerial = s.freeSerial := rfl
@[simp] theorem State.count_pending (ch : ChannelId) (f : ChannelCounters → ChannelCounters) :
    (s.count ch f).pending = s.pending := rfl

/-! ### `State.releaseSlot` -/

@[simp] theorem State.releaseSlot_hold (i : SlotId) : (s.releaseSlot i).hold = s.hold := rfl
@[simp] theorem State.releaseSlot_profiles (i : SlotId) :
    (s.releaseSlot i).profiles = s.profiles := rfl
@[simp] theorem State.releaseSlot_windows (i : SlotId) :
    (s.releaseSlot i).windows = s.windows := rfl
@[simp] theorem State.releaseSlot_markers (i : SlotId) :
    (s.releaseSlot i).markers = s.markers := rfl
@[simp] theorem State.releaseSlot_matchFlags (i : SlotId) :
    (s.releaseSlot i).matchFlags = s.matchFlags := rfl
@[simp] theorem State.releaseSlot_settings (i : SlotId) :
    (s.releaseSlot i).settings = s.settings := rfl
@[simp] theorem State.releaseSlot_channels (i : SlotId) :
    (s.releaseSlot i).channels = s.channels := rfl
@[simp] theorem State.releaseSlot_faults (i : SlotId) : (s.releaseSlot i).faults = s.faults := rfl
@[simp] theorem State.releaseSlot_decode (i : SlotId) : (s.releaseSlot i).decode = s.decode := rfl
@[simp] theorem State.releaseSlot_jobs (i : SlotId) : (s.releaseSlot i).jobs = s.jobs := rfl
@[simp] theorem State.releaseSlot_encode (i : SlotId) : (s.releaseSlot i).encode = s.encode := rfl
@[simp] theorem State.releaseSlot_small (i : SlotId) : (s.releaseSlot i).small = s.small := rfl
@[simp] theorem State.releaseSlot_egress (i : SlotId) : (s.releaseSlot i).egress = s.egress := rfl
@[simp] theorem State.releaseSlot_ingest (i : SlotId) : (s.releaseSlot i).ingest = s.ingest := rfl
@[simp] theorem State.releaseSlot_reports (i : SlotId) :
    (s.releaseSlot i).reports = s.reports := rfl
@[simp] theorem State.releaseSlot_freeSerial (i : SlotId) :
    (s.releaseSlot i).freeSerial = s.freeSerial := rfl
@[simp] theorem State.releaseSlot_pending (i : SlotId) :
    (s.releaseSlot i).pending = s.pending := rfl

/-! ### `State.markSlot` -/

@[simp] theorem State.markSlot_hold (i : SlotId) (st : SlotState) :
    (s.markSlot i st).hold = s.hold := rfl
@[simp] theorem State.markSlot_profiles (i : SlotId) (st : SlotState) :
    (s.markSlot i st).profiles = s.profiles := rfl
@[simp] theorem State.markSlot_windows (i : SlotId) (st : SlotState) :
    (s.markSlot i st).windows = s.windows := rfl
@[simp] theorem State.markSlot_markers (i : SlotId) (st : SlotState) :
    (s.markSlot i st).markers = s.markers := rfl
@[simp] theorem State.markSlot_matchFlags (i : SlotId) (st : SlotState) :
    (s.markSlot i st).matchFlags = s.matchFlags := rfl
@[simp] theorem State.markSlot_settings (i : SlotId) (st : SlotState) :
    (s.markSlot i st).settings = s.settings := rfl
@[simp] theorem State.markSlot_channels (i : SlotId) (st : SlotState) :
    (s.markSlot i st).channels = s.channels := rfl
@[simp] theorem State.markSlot_faults (i : SlotId) (st : SlotState) :
    (s.markSlot i st).faults = s.faults := rfl
@[simp] theorem State.markSlot_decode (i : SlotId) (st : SlotState) :
    (s.markSlot i st).decode = s.decode := rfl
@[simp] theorem State.markSlot_jobs (i : SlotId) (st : SlotState) :
    (s.markSlot i st).jobs = s.jobs := rfl
@[simp] theorem State.markSlot_encode (i : SlotId) (st : SlotState) :
    (s.markSlot i st).encode = s.encode := rfl
@[simp] theorem State.markSlot_small (i : SlotId) (st : SlotState) :
    (s.markSlot i st).small = s.small := rfl
@[simp] theorem State.markSlot_egress (i : SlotId) (st : SlotState) :
    (s.markSlot i st).egress = s.egress := rfl
@[simp] theorem State.markSlot_ingest (i : SlotId) (st : SlotState) :
    (s.markSlot i st).ingest = s.ingest := rfl
@[simp] theorem State.markSlot_reports (i : SlotId) (st : SlotState) :
    (s.markSlot i st).reports = s.reports := rfl
@[simp] theorem State.markSlot_freeSerial (i : SlotId) (st : SlotState) :
    (s.markSlot i st).freeSerial = s.freeSerial := rfl
@[simp] theorem State.markSlot_pending (i : SlotId) (st : SlotState) :
    (s.markSlot i st).pending = s.pending := rfl

/-! ### `State.reply` -/

@[simp] theorem State.reply_hold (tag : BitVec 16) (code : Byte) (r : Result) (d : ReplyData) :
    (s.reply tag code r d).hold = s.hold := rfl
@[simp] theorem State.reply_profiles (tag : BitVec 16) (code : Byte) (r : Result) (d : ReplyData) :
    (s.reply tag code r d).profiles = s.profiles := rfl
@[simp] theorem State.reply_windows (tag : BitVec 16) (code : Byte) (r : Result) (d : ReplyData) :
    (s.reply tag code r d).windows = s.windows := rfl
@[simp] theorem State.reply_markers (tag : BitVec 16) (code : Byte) (r : Result) (d : ReplyData) :
    (s.reply tag code r d).markers = s.markers := rfl
@[simp] theorem State.reply_matchFlags (tag : BitVec 16) (code : Byte) (r : Result) (d : ReplyData) :
    (s.reply tag code r d).matchFlags = s.matchFlags := rfl
@[simp] theorem State.reply_settings (tag : BitVec 16) (code : Byte) (r : Result) (d : ReplyData) :
    (s.reply tag code r d).settings = s.settings := rfl
@[simp] theorem State.reply_channels (tag : BitVec 16) (code : Byte) (r : Result) (d : ReplyData) :
    (s.reply tag code r d).channels = s.channels := rfl
@[simp] theorem State.reply_pool (tag : BitVec 16) (code : Byte) (r : Result) (d : ReplyData) :
    (s.reply tag code r d).pool = s.pool := rfl
@[simp] theorem State.reply_faults (tag : BitVec 16) (code : Byte) (r : Result) (d : ReplyData) :
    (s.reply tag code r d).faults = s.faults := rfl
@[simp] theorem State.reply_decode (tag : BitVec 16) (code : Byte) (r : Result) (d : ReplyData) :
    (s.reply tag code r d).decode = s.decode := rfl
@[simp] theorem State.reply_jobs (tag : BitVec 16) (code : Byte) (r : Result) (d : ReplyData) :
    (s.reply tag code r d).jobs = s.jobs := rfl
@[simp] theorem State.reply_encode (tag : BitVec 16) (code : Byte) (r : Result) (d : ReplyData) :
    (s.reply tag code r d).encode = s.encode := rfl
@[simp] theorem State.reply_small (tag : BitVec 16) (code : Byte) (r : Result) (d : ReplyData) :
    (s.reply tag code r d).small = s.small := rfl
@[simp] theorem State.reply_egress (tag : BitVec 16) (code : Byte) (r : Result) (d : ReplyData) :
    (s.reply tag code r d).egress = s.egress := rfl
@[simp] theorem State.reply_freeSerial (tag : BitVec 16) (code : Byte) (r : Result) (d : ReplyData) :
    (s.reply tag code r d).freeSerial = s.freeSerial := rfl
@[simp] theorem State.reply_pending (tag : BitVec 16) (code : Byte) (r : Result) (d : ReplyData) :
    (s.reply tag code r d).pending = s.pending := rfl

/-! ### `State.enqueue` -/

@[simp] theorem State.enqueue_hold (e : EgressEntry) : (s.enqueue e).hold = s.hold := rfl
@[simp] theorem State.enqueue_profiles (e : EgressEntry) :
    (s.enqueue e).profiles = s.profiles := rfl
@[simp] theorem State.enqueue_windows (e : EgressEntry) : (s.enqueue e).windows = s.windows := rfl
@[simp] theorem State.enqueue_markers (e : EgressEntry) : (s.enqueue e).markers = s.markers := rfl
@[simp] theorem State.enqueue_matchFlags (e : EgressEntry) :
    (s.enqueue e).matchFlags = s.matchFlags := rfl
@[simp] theorem State.enqueue_settings (e : EgressEntry) :
    (s.enqueue e).settings = s.settings := rfl
@[simp] theorem State.enqueue_channels (e : EgressEntry) :
    (s.enqueue e).channels = s.channels := rfl
@[simp] theorem State.enqueue_pool (e : EgressEntry) : (s.enqueue e).pool = s.pool := rfl
@[simp] theorem State.enqueue_faults (e : EgressEntry) : (s.enqueue e).faults = s.faults := rfl
@[simp] theorem State.enqueue_decode (e : EgressEntry) : (s.enqueue e).decode = s.decode := rfl
@[simp] theorem State.enqueue_jobs (e : EgressEntry) : (s.enqueue e).jobs = s.jobs := rfl
@[simp] theorem State.enqueue_encode (e : EgressEntry) : (s.enqueue e).encode = s.encode := rfl
@[simp] theorem State.enqueue_small (e : EgressEntry) : (s.enqueue e).small = s.small := rfl
@[simp] theorem State.enqueue_ingest (e : EgressEntry) : (s.enqueue e).ingest = s.ingest := rfl
@[simp] theorem State.enqueue_reports (e : EgressEntry) : (s.enqueue e).reports = s.reports := rfl
@[simp] theorem State.enqueue_freeSerial (e : EgressEntry) :
    (s.enqueue e).freeSerial = s.freeSerial := rfl
@[simp] theorem State.enqueue_pending (e : EgressEntry) : (s.enqueue e).pending = s.pending := rfl

/-! ### `State.releaseReservation` -/

@[simp] theorem State.releaseReservation_hold (cap : Nat) :
    (s.releaseReservation cap).hold = s.hold := rfl
@[simp] theorem State.releaseReservation_profiles (cap : Nat) :
    (s.releaseReservation cap).profiles = s.profiles := rfl
@[simp] theorem State.releaseReservation_windows (cap : Nat) :
    (s.releaseReservation cap).windows = s.windows := rfl
@[simp] theorem State.releaseReservation_markers (cap : Nat) :
    (s.releaseReservation cap).markers = s.markers := rfl
@[simp] theorem State.releaseReservation_matchFlags (cap : Nat) :
    (s.releaseReservation cap).matchFlags = s.matchFlags := rfl
@[simp] theorem State.releaseReservation_settings (cap : Nat) :
    (s.releaseReservation cap).settings = s.settings := rfl
@[simp] theorem State.releaseReservation_channels (cap : Nat) :
    (s.releaseReservation cap).channels = s.channels := rfl
@[simp] theorem State.releaseReservation_pool (cap : Nat) :
    (s.releaseReservation cap).pool = s.pool := rfl
@[simp] theorem State.releaseReservation_faults (cap : Nat) :
    (s.releaseReservation cap).faults = s.faults := rfl
@[simp] theorem State.releaseReservation_decode (cap : Nat) :
    (s.releaseReservation cap).decode = s.decode := rfl
@[simp] theorem State.releaseReservation_jobs (cap : Nat) :
    (s.releaseReservation cap).jobs = s.jobs := rfl
@[simp] theorem State.releaseReservation_encode (cap : Nat) :
    (s.releaseReservation cap).encode = s.encode := rfl
@[simp] theorem State.releaseReservation_small (cap : Nat) :
    (s.releaseReservation cap).small = s.small := rfl
@[simp] theorem State.releaseReservation_ingest (cap : Nat) :
    (s.releaseReservation cap).ingest = s.ingest := rfl
@[simp] theorem State.releaseReservation_reports (cap : Nat) :
    (s.releaseReservation cap).reports = s.reports := rfl
@[simp] theorem State.releaseReservation_freeSerial (cap : Nat) :
    (s.releaseReservation cap).freeSerial = s.freeSerial := rfl
@[simp] theorem State.releaseReservation_pending (cap : Nat) :
    (s.releaseReservation cap).pending = s.pending := rfl

/-! ### `State.enterHeld` -/

@[simp] theorem State.enterHeld_profiles : s.enterHeld.profiles = s.profiles := rfl
@[simp] theorem State.enterHeld_windows : s.enterHeld.windows = s.windows := rfl
@[simp] theorem State.enterHeld_markers : s.enterHeld.markers = s.markers := rfl
@[simp] theorem State.enterHeld_matchFlags : s.enterHeld.matchFlags = s.matchFlags := rfl
@[simp] theorem State.enterHeld_settings : s.enterHeld.settings = s.settings := rfl
@[simp] theorem State.enterHeld_channels : s.enterHeld.channels = s.channels := rfl
@[simp] theorem State.enterHeld_pool : s.enterHeld.pool = s.pool := rfl
@[simp] theorem State.enterHeld_faults : s.enterHeld.faults = s.faults := rfl
@[simp] theorem State.enterHeld_decode : s.enterHeld.decode = s.decode := rfl
@[simp] theorem State.enterHeld_jobs : s.enterHeld.jobs = s.jobs := rfl
@[simp] theorem State.enterHeld_encode : s.enterHeld.encode = s.encode := rfl
@[simp] theorem State.enterHeld_small : s.enterHeld.small = s.small := rfl
@[simp] theorem State.enterHeld_ingest : s.enterHeld.ingest = s.ingest := rfl
@[simp] theorem State.enterHeld_reports : s.enterHeld.reports = s.reports := rfl
@[simp] theorem State.enterHeld_freeSerial : s.enterHeld.freeSerial = s.freeSerial := rfl
@[simp] theorem State.enterHeld_pending : s.enterHeld.pending = s.pending := rfl

/-! ### `State.countFrame` -/

@[simp] theorem State.countFrame_hold (f : FrameCounters → FrameCounters) :
    (s.countFrame f).hold = s.hold := rfl
@[simp] theorem State.countFrame_profiles (f : FrameCounters → FrameCounters) :
    (s.countFrame f).profiles = s.profiles := rfl
@[simp] theorem State.countFrame_windows (f : FrameCounters → FrameCounters) :
    (s.countFrame f).windows = s.windows := rfl
@[simp] theorem State.countFrame_markers (f : FrameCounters → FrameCounters) :
    (s.countFrame f).markers = s.markers := rfl
@[simp] theorem State.countFrame_matchFlags (f : FrameCounters → FrameCounters) :
    (s.countFrame f).matchFlags = s.matchFlags := rfl
@[simp] theorem State.countFrame_settings (f : FrameCounters → FrameCounters) :
    (s.countFrame f).settings = s.settings := rfl
@[simp] theorem State.countFrame_channels (f : FrameCounters → FrameCounters) :
    (s.countFrame f).channels = s.channels := rfl
@[simp] theorem State.countFrame_pool (f : FrameCounters → FrameCounters) :
    (s.countFrame f).pool = s.pool := rfl
@[simp] theorem State.countFrame_faults (f : FrameCounters → FrameCounters) :
    (s.countFrame f).faults = s.faults := rfl
@[simp] theorem State.countFrame_decode (f : FrameCounters → FrameCounters) :
    (s.countFrame f).decode = s.decode := rfl
@[simp] theorem State.countFrame_jobs (f : FrameCounters → FrameCounters) :
    (s.countFrame f).jobs = s.jobs := rfl
@[simp] theorem State.countFrame_encode (f : FrameCounters → FrameCounters) :
    (s.countFrame f).encode = s.encode := rfl
@[simp] theorem State.countFrame_small (f : FrameCounters → FrameCounters) :
    (s.countFrame f).small = s.small := rfl
@[simp] theorem State.countFrame_egress (f : FrameCounters → FrameCounters) :
    (s.countFrame f).egress = s.egress := rfl
@[simp] theorem State.countFrame_reports (f : FrameCounters → FrameCounters) :
    (s.countFrame f).reports = s.reports := rfl
@[simp] theorem State.countFrame_freeSerial (f : FrameCounters → FrameCounters) :
    (s.countFrame f).freeSerial = s.freeSerial := rfl
@[simp] theorem State.countFrame_pending (f : FrameCounters → FrameCounters) :
    (s.countFrame f).pending = s.pending := rfl

/-! ### `State.clearDecode` -/

@[simp] theorem State.clearDecode_hold (ch : ChannelId) : (s.clearDecode ch).hold = s.hold := rfl
@[simp] theorem State.clearDecode_profiles (ch : ChannelId) :
    (s.clearDecode ch).profiles = s.profiles := rfl
@[simp] theorem State.clearDecode_windows (ch : ChannelId) :
    (s.clearDecode ch).windows = s.windows := rfl
@[simp] theorem State.clearDecode_markers (ch : ChannelId) :
    (s.clearDecode ch).markers = s.markers := rfl
@[simp] theorem State.clearDecode_matchFlags (ch : ChannelId) :
    (s.clearDecode ch).matchFlags = s.matchFlags := rfl
@[simp] theorem State.clearDecode_settings (ch : ChannelId) :
    (s.clearDecode ch).settings = s.settings := rfl
@[simp] theorem State.clearDecode_pool (ch : ChannelId) : (s.clearDecode ch).pool = s.pool := rfl
@[simp] theorem State.clearDecode_faults (ch : ChannelId) :
    (s.clearDecode ch).faults = s.faults := rfl
@[simp] theorem State.clearDecode_decode (ch : ChannelId) :
    (s.clearDecode ch).decode = s.decode := rfl
@[simp] theorem State.clearDecode_jobs (ch : ChannelId) : (s.clearDecode ch).jobs = s.jobs := rfl
@[simp] theorem State.clearDecode_encode (ch : ChannelId) :
    (s.clearDecode ch).encode = s.encode := rfl
@[simp] theorem State.clearDecode_small (ch : ChannelId) : (s.clearDecode ch).small = s.small := rfl
@[simp] theorem State.clearDecode_egress (ch : ChannelId) :
    (s.clearDecode ch).egress = s.egress := rfl
@[simp] theorem State.clearDecode_ingest (ch : ChannelId) :
    (s.clearDecode ch).ingest = s.ingest := rfl
@[simp] theorem State.clearDecode_reports (ch : ChannelId) :
    (s.clearDecode ch).reports = s.reports := rfl
@[simp] theorem State.clearDecode_freeSerial (ch : ChannelId) :
    (s.clearDecode ch).freeSerial = s.freeSerial := rfl
@[simp] theorem State.clearDecode_pending (ch : ChannelId) :
    (s.clearDecode ch).pending = s.pending := rfl

/-! ### `State.raise` -/

@[simp] theorem State.raise_hold (e : Event) : (s.raise e).hold = s.hold := by
  unfold State.raise; split <;> rfl
@[simp] theorem State.raise_profiles (e : Event) : (s.raise e).profiles = s.profiles := by
  unfold State.raise; split <;> rfl
@[simp] theorem State.raise_windows (e : Event) : (s.raise e).windows = s.windows := by
  unfold State.raise; split <;> rfl
@[simp] theorem State.raise_markers (e : Event) : (s.raise e).markers = s.markers := by
  unfold State.raise; split <;> rfl
@[simp] theorem State.raise_matchFlags (e : Event) : (s.raise e).matchFlags = s.matchFlags := by
  unfold State.raise; split <;> rfl
@[simp] theorem State.raise_settings (e : Event) : (s.raise e).settings = s.settings := by
  unfold State.raise; split <;> rfl
@[simp] theorem State.raise_channels (e : Event) : (s.raise e).channels = s.channels := by
  unfold State.raise; split <;> rfl
@[simp] theorem State.raise_pool (e : Event) : (s.raise e).pool = s.pool := by
  unfold State.raise; split <;> rfl
@[simp] theorem State.raise_faults (e : Event) : (s.raise e).faults = s.faults := by
  unfold State.raise; split <;> rfl
@[simp] theorem State.raise_decode (e : Event) : (s.raise e).decode = s.decode := by
  unfold State.raise; split <;> rfl
@[simp] theorem State.raise_jobs (e : Event) : (s.raise e).jobs = s.jobs := by
  unfold State.raise; split <;> rfl
@[simp] theorem State.raise_encode (e : Event) : (s.raise e).encode = s.encode := by
  unfold State.raise; split <;> rfl
@[simp] theorem State.raise_small (e : Event) : (s.raise e).small = s.small := by
  unfold State.raise; split <;> rfl
@[simp] theorem State.raise_egress (e : Event) : (s.raise e).egress = s.egress := by
  unfold State.raise; split <;> rfl
@[simp] theorem State.raise_ingest (e : Event) : (s.raise e).ingest = s.ingest := by
  unfold State.raise; split <;> rfl
@[simp] theorem State.raise_freeSerial (e : Event) : (s.raise e).freeSerial = s.freeSerial := by
  unfold State.raise; split <;> rfl
@[simp] theorem State.raise_pending (e : Event) : (s.raise e).pending = s.pending := by
  unfold State.raise; split <;> rfl

/-! ### `State.beginReturn` -/

@[simp] theorem State.beginReturn_hold : s.beginReturn.hold = s.hold := by
  unfold State.beginReturn; repeat (first | rfl | split)
@[simp] theorem State.beginReturn_profiles : s.beginReturn.profiles = s.profiles := by
  unfold State.beginReturn; repeat (first | rfl | split)
@[simp] theorem State.beginReturn_windows : s.beginReturn.windows = s.windows := by
  unfold State.beginReturn; repeat (first | rfl | split)
@[simp] theorem State.beginReturn_markers : s.beginReturn.markers = s.markers := by
  unfold State.beginReturn; repeat (first | rfl | split)
@[simp] theorem State.beginReturn_matchFlags : s.beginReturn.matchFlags = s.matchFlags := by
  unfold State.beginReturn; repeat (first | rfl | split)
@[simp] theorem State.beginReturn_settings : s.beginReturn.settings = s.settings := by
  unfold State.beginReturn; repeat (first | rfl | split)
@[simp] theorem State.beginReturn_channels : s.beginReturn.channels = s.channels := by
  unfold State.beginReturn; repeat (first | rfl | split)
@[simp] theorem State.beginReturn_pool : s.beginReturn.pool = s.pool := by
  unfold State.beginReturn; repeat (first | rfl | split)
@[simp] theorem State.beginReturn_faults : s.beginReturn.faults = s.faults := by
  unfold State.beginReturn; repeat (first | rfl | split)
@[simp] theorem State.beginReturn_decode : s.beginReturn.decode = s.decode := by
  unfold State.beginReturn; repeat (first | rfl | split)
@[simp] theorem State.beginReturn_jobs : s.beginReturn.jobs = s.jobs := by
  unfold State.beginReturn; repeat (first | rfl | split)
@[simp] theorem State.beginReturn_encode : s.beginReturn.encode = s.encode := by
  unfold State.beginReturn; repeat (first | rfl | split)
@[simp] theorem State.beginReturn_small : s.beginReturn.small = s.small := by
  unfold State.beginReturn; repeat (first | rfl | split)
@[simp] theorem State.beginReturn_egress : s.beginReturn.egress = s.egress := by
  unfold State.beginReturn; repeat (first | rfl | split)
@[simp] theorem State.beginReturn_reports : s.beginReturn.reports = s.reports := by
  unfold State.beginReturn; repeat (first | rfl | split)
@[simp] theorem State.beginReturn_freeSerial : s.beginReturn.freeSerial = s.freeSerial := by
  unfold State.beginReturn; repeat (first | rfl | split)
@[simp] theorem State.beginReturn_pending : s.beginReturn.pending = s.pending := by
  unfold State.beginReturn; repeat (first | rfl | split)

/-! ### `State.startStall` -/

@[simp] theorem State.startStall_hold : s.startStall.hold = s.hold := by
  unfold State.startStall; split <;> rfl
@[simp] theorem State.startStall_profiles : s.startStall.profiles = s.profiles := by
  unfold State.startStall; split <;> rfl
@[simp] theorem State.startStall_windows : s.startStall.windows = s.windows := by
  unfold State.startStall; split <;> rfl
@[simp] theorem State.startStall_markers : s.startStall.markers = s.markers := by
  unfold State.startStall; split <;> rfl
@[simp] theorem State.startStall_matchFlags : s.startStall.matchFlags = s.matchFlags := by
  unfold State.startStall; split <;> rfl
@[simp] theorem State.startStall_settings : s.startStall.settings = s.settings := by
  unfold State.startStall; split <;> rfl
@[simp] theorem State.startStall_channels : s.startStall.channels = s.channels := by
  unfold State.startStall; split <;> rfl
@[simp] theorem State.startStall_pool : s.startStall.pool = s.pool := by
  unfold State.startStall; split <;> rfl
@[simp] theorem State.startStall_faults : s.startStall.faults = s.faults := by
  unfold State.startStall; split <;> rfl
@[simp] theorem State.startStall_decode : s.startStall.decode = s.decode := by
  unfold State.startStall; split <;> rfl
@[simp] theorem State.startStall_jobs : s.startStall.jobs = s.jobs := by
  unfold State.startStall; split <;> rfl
@[simp] theorem State.startStall_encode : s.startStall.encode = s.encode := by
  unfold State.startStall; split <;> rfl
@[simp] theorem State.startStall_small : s.startStall.small = s.small := by
  unfold State.startStall; split <;> rfl
@[simp] theorem State.startStall_ingest : s.startStall.ingest = s.ingest := by
  unfold State.startStall; split <;> rfl
@[simp] theorem State.startStall_reports : s.startStall.reports = s.reports := by
  unfold State.startStall; split <;> rfl
@[simp] theorem State.startStall_freeSerial : s.startStall.freeSerial = s.freeSerial := by
  unfold State.startStall; split <;> rfl
@[simp] theorem State.startStall_pending : s.startStall.pending = s.pending := by
  unfold State.startStall; split <;> rfl

/-! ### `State.raiseAll` -/

@[simp] theorem State.raiseAll_hold (es : List Event) : (s.raiseAll es).hold = s.hold := by
  induction es generalizing s with
  | nil => rfl
  | cons e es ih => exact (ih (s.raise e)).trans (State.raise_hold s e)
@[simp] theorem State.raiseAll_profiles (es : List Event) :
    (s.raiseAll es).profiles = s.profiles := by
  induction es generalizing s with
  | nil => rfl
  | cons e es ih => exact (ih (s.raise e)).trans (State.raise_profiles s e)
@[simp] theorem State.raiseAll_windows (es : List Event) : (s.raiseAll es).windows = s.windows := by
  induction es generalizing s with
  | nil => rfl
  | cons e es ih => exact (ih (s.raise e)).trans (State.raise_windows s e)
@[simp] theorem State.raiseAll_markers (es : List Event) : (s.raiseAll es).markers = s.markers := by
  induction es generalizing s with
  | nil => rfl
  | cons e es ih => exact (ih (s.raise e)).trans (State.raise_markers s e)
@[simp] theorem State.raiseAll_matchFlags (es : List Event) :
    (s.raiseAll es).matchFlags = s.matchFlags := by
  induction es generalizing s with
  | nil => rfl
  | cons e es ih => exact (ih (s.raise e)).trans (State.raise_matchFlags s e)
@[simp] theorem State.raiseAll_settings (es : List Event) :
    (s.raiseAll es).settings = s.settings := by
  induction es generalizing s with
  | nil => rfl
  | cons e es ih => exact (ih (s.raise e)).trans (State.raise_settings s e)
@[simp] theorem State.raiseAll_channels (es : List Event) :
    (s.raiseAll es).channels = s.channels := by
  induction es generalizing s with
  | nil => rfl
  | cons e es ih => exact (ih (s.raise e)).trans (State.raise_channels s e)
@[simp] theorem State.raiseAll_pool (es : List Event) : (s.raiseAll es).pool = s.pool := by
  induction es generalizing s with
  | nil => rfl
  | cons e es ih => exact (ih (s.raise e)).trans (State.raise_pool s e)
@[simp] theorem State.raiseAll_faults (es : List Event) : (s.raiseAll es).faults = s.faults := by
  induction es generalizing s with
  | nil => rfl
  | cons e es ih => exact (ih (s.raise e)).trans (State.raise_faults s e)
@[simp] theorem State.raiseAll_decode (es : List Event) : (s.raiseAll es).decode = s.decode := by
  induction es generalizing s with
  | nil => rfl
  | cons e es ih => exact (ih (s.raise e)).trans (State.raise_decode s e)
@[simp] theorem State.raiseAll_jobs (es : List Event) : (s.raiseAll es).jobs = s.jobs := by
  induction es generalizing s with
  | nil => rfl
  | cons e es ih => exact (ih (s.raise e)).trans (State.raise_jobs s e)
@[simp] theorem State.raiseAll_encode (es : List Event) : (s.raiseAll es).encode = s.encode := by
  induction es generalizing s with
  | nil => rfl
  | cons e es ih => exact (ih (s.raise e)).trans (State.raise_encode s e)
@[simp] theorem State.raiseAll_small (es : List Event) : (s.raiseAll es).small = s.small := by
  induction es generalizing s with
  | nil => rfl
  | cons e es ih => exact (ih (s.raise e)).trans (State.raise_small s e)
@[simp] theorem State.raiseAll_egress (es : List Event) : (s.raiseAll es).egress = s.egress := by
  induction es generalizing s with
  | nil => rfl
  | cons e es ih => exact (ih (s.raise e)).trans (State.raise_egress s e)
@[simp] theorem State.raiseAll_ingest (es : List Event) : (s.raiseAll es).ingest = s.ingest := by
  induction es generalizing s with
  | nil => rfl
  | cons e es ih => exact (ih (s.raise e)).trans (State.raise_ingest s e)
@[simp] theorem State.raiseAll_freeSerial (es : List Event) :
    (s.raiseAll es).freeSerial = s.freeSerial := by
  induction es generalizing s with
  | nil => rfl
  | cons e es ih => exact (ih (s.raise e)).trans (State.raise_freeSerial s e)
@[simp] theorem State.raiseAll_pending (es : List Event) : (s.raiseAll es).pending = s.pending := by
  induction es generalizing s with
  | nil => rfl
  | cons e es ih => exact (ih (s.raise e)).trans (State.raise_pending s e)

/-! ### `State.reportRead` -/

@[simp] theorem State.reportRead_hold (o : ReadOutcome) (r : FaultRecord) :
    (s.reportRead o r).hold = s.hold := by
  cases o <;> simp [State.reportRead]
  split <;> simp
@[simp] theorem State.reportRead_profiles (o : ReadOutcome) (r : FaultRecord) :
    (s.reportRead o r).profiles = s.profiles := by
  cases o <;> simp [State.reportRead]
  split <;> simp
@[simp] theorem State.reportRead_windows (o : ReadOutcome) (r : FaultRecord) :
    (s.reportRead o r).windows = s.windows := by
  cases o <;> simp [State.reportRead]
  split <;> simp
@[simp] theorem State.reportRead_markers (o : ReadOutcome) (r : FaultRecord) :
    (s.reportRead o r).markers = s.markers := by
  cases o <;> simp [State.reportRead]
  split <;> simp
@[simp] theorem State.reportRead_matchFlags (o : ReadOutcome) (r : FaultRecord) :
    (s.reportRead o r).matchFlags = s.matchFlags := by
  cases o <;> simp [State.reportRead]
  split <;> simp
@[simp] theorem State.reportRead_settings (o : ReadOutcome) (r : FaultRecord) :
    (s.reportRead o r).settings = s.settings := by
  cases o <;> simp [State.reportRead]
  split <;> simp
@[simp] theorem State.reportRead_channels (o : ReadOutcome) (r : FaultRecord) :
    (s.reportRead o r).channels = s.channels := by
  cases o <;> simp [State.reportRead]
  split <;> simp
@[simp] theorem State.reportRead_pool (o : ReadOutcome) (r : FaultRecord) :
    (s.reportRead o r).pool = s.pool := by
  cases o <;> simp [State.reportRead]
  split <;> simp
@[simp] theorem State.reportRead_decode (o : ReadOutcome) (r : FaultRecord) :
    (s.reportRead o r).decode = s.decode := by
  cases o <;> simp [State.reportRead]
  split <;> simp
@[simp] theorem State.reportRead_jobs (o : ReadOutcome) (r : FaultRecord) :
    (s.reportRead o r).jobs = s.jobs := by
  cases o <;> simp [State.reportRead]
  split <;> simp
@[simp] theorem State.reportRead_encode (o : ReadOutcome) (r : FaultRecord) :
    (s.reportRead o r).encode = s.encode := by
  cases o <;> simp [State.reportRead]
  split <;> simp
@[simp] theorem State.reportRead_small (o : ReadOutcome) (r : FaultRecord) :
    (s.reportRead o r).small = s.small := by
  cases o <;> simp [State.reportRead]
  split <;> simp
@[simp] theorem State.reportRead_egress (o : ReadOutcome) (r : FaultRecord) :
    (s.reportRead o r).egress = s.egress := by
  cases o <;> simp [State.reportRead]
  split <;> simp
@[simp] theorem State.reportRead_ingest (o : ReadOutcome) (r : FaultRecord) :
    (s.reportRead o r).ingest = s.ingest := by
  cases o <;> simp [State.reportRead]
  split <;> simp
@[simp] theorem State.reportRead_freeSerial (o : ReadOutcome) (r : FaultRecord) :
    (s.reportRead o r).freeSerial = s.freeSerial := by
  cases o <;> simp [State.reportRead]
  split <;> simp
@[simp] theorem State.reportRead_pending (o : ReadOutcome) (r : FaultRecord) :
    (s.reportRead o r).pending = s.pending := by
  cases o <;> simp [State.reportRead]
  split <;> simp

/-! ### `State.resume` -/

@[simp] theorem State.resume_profiles : s.resume.profiles = s.profiles := by
  simp [State.resume]
@[simp] theorem State.resume_windows : s.resume.windows = s.windows := by
  simp [State.resume]
@[simp] theorem State.resume_markers : s.resume.markers = s.markers := by
  simp [State.resume]
@[simp] theorem State.resume_matchFlags : s.resume.matchFlags = s.matchFlags := by
  simp [State.resume]
@[simp] theorem State.resume_settings : s.resume.settings = s.settings := by
  simp [State.resume]
@[simp] theorem State.resume_channels : s.resume.channels = s.channels := by
  simp [State.resume]
@[simp] theorem State.resume_pool : s.resume.pool = s.pool := by
  simp [State.resume]
@[simp] theorem State.resume_faults : s.resume.faults = s.faults := by
  simp [State.resume]
@[simp] theorem State.resume_decode : s.resume.decode = s.decode := by
  simp [State.resume]
@[simp] theorem State.resume_jobs : s.resume.jobs = s.jobs := by
  simp [State.resume]
@[simp] theorem State.resume_encode : s.resume.encode = s.encode := by
  simp [State.resume]
@[simp] theorem State.resume_small : s.resume.small = s.small := by
  simp [State.resume]
@[simp] theorem State.resume_ingest : s.resume.ingest = s.ingest := by
  simp [State.resume]
@[simp] theorem State.resume_reports : s.resume.reports = s.reports := by
  simp [State.resume]
@[simp] theorem State.resume_freeSerial : s.resume.freeSerial = s.freeSerial := by
  simp [State.resume]
@[simp] theorem State.resume_pending : s.resume.pending = s.pending := by
  simp [State.resume]

/-! ### `State.settleHold` -/

@[simp] theorem State.settleHold_profiles : s.settleHold.profiles = s.profiles := by
  unfold State.settleHold State.decideHold; split <;> simp
@[simp] theorem State.settleHold_windows : s.settleHold.windows = s.windows := by
  unfold State.settleHold State.decideHold; split <;> simp
@[simp] theorem State.settleHold_markers : s.settleHold.markers = s.markers := by
  unfold State.settleHold State.decideHold; split <;> simp
@[simp] theorem State.settleHold_matchFlags : s.settleHold.matchFlags = s.matchFlags := by
  unfold State.settleHold State.decideHold; split <;> simp
@[simp] theorem State.settleHold_settings : s.settleHold.settings = s.settings := by
  unfold State.settleHold State.decideHold; split <;> simp
@[simp] theorem State.settleHold_channels : s.settleHold.channels = s.channels := by
  unfold State.settleHold State.decideHold; split <;> simp
@[simp] theorem State.settleHold_pool : s.settleHold.pool = s.pool := by
  unfold State.settleHold State.decideHold; split <;> simp
@[simp] theorem State.settleHold_faults : s.settleHold.faults = s.faults := by
  unfold State.settleHold State.decideHold; split <;> simp
@[simp] theorem State.settleHold_decode : s.settleHold.decode = s.decode := by
  unfold State.settleHold State.decideHold; split <;> simp
@[simp] theorem State.settleHold_jobs : s.settleHold.jobs = s.jobs := by
  unfold State.settleHold State.decideHold; split <;> simp
@[simp] theorem State.settleHold_encode : s.settleHold.encode = s.encode := by
  unfold State.settleHold State.decideHold; split <;> simp
@[simp] theorem State.settleHold_small : s.settleHold.small = s.small := by
  unfold State.settleHold State.decideHold; split <;> simp
@[simp] theorem State.settleHold_ingest : s.settleHold.ingest = s.ingest := by
  unfold State.settleHold State.decideHold; split <;> simp
@[simp] theorem State.settleHold_freeSerial : s.settleHold.freeSerial = s.freeSerial := by
  unfold State.settleHold State.decideHold; split <;> simp
@[simp] theorem State.settleHold_pending : s.settleHold.pending = s.pending := by
  unfold State.settleHold State.decideHold; split <;> simp

/-! ### `State.discardPartial` -/

@[simp] theorem State.discardPartial_hold (ch : ChannelId) :
    (s.discardPartial ch).hold = s.hold := by
  unfold State.discardPartial; split <;> simp
@[simp] theorem State.discardPartial_profiles (ch : ChannelId) :
    (s.discardPartial ch).profiles = s.profiles := by
  unfold State.discardPartial; split <;> simp
@[simp] theorem State.discardPartial_windows (ch : ChannelId) :
    (s.discardPartial ch).windows = s.windows := by
  unfold State.discardPartial; split <;> simp
@[simp] theorem State.discardPartial_markers (ch : ChannelId) :
    (s.discardPartial ch).markers = s.markers := by
  unfold State.discardPartial; split <;> simp
@[simp] theorem State.discardPartial_matchFlags (ch : ChannelId) :
    (s.discardPartial ch).matchFlags = s.matchFlags := by
  unfold State.discardPartial; split <;> simp
@[simp] theorem State.discardPartial_settings (ch : ChannelId) :
    (s.discardPartial ch).settings = s.settings := by
  unfold State.discardPartial; split <;> simp
@[simp] theorem State.discardPartial_faults (ch : ChannelId) :
    (s.discardPartial ch).faults = s.faults := by
  unfold State.discardPartial; split <;> simp
@[simp] theorem State.discardPartial_decode (ch : ChannelId) :
    (s.discardPartial ch).decode = s.decode := by
  unfold State.discardPartial; split <;> simp
@[simp] theorem State.discardPartial_jobs (ch : ChannelId) :
    (s.discardPartial ch).jobs = s.jobs := by
  unfold State.discardPartial; split <;> simp
@[simp] theorem State.discardPartial_encode (ch : ChannelId) :
    (s.discardPartial ch).encode = s.encode := by
  unfold State.discardPartial; split <;> simp
@[simp] theorem State.discardPartial_small (ch : ChannelId) :
    (s.discardPartial ch).small = s.small := by
  unfold State.discardPartial; split <;> simp
@[simp] theorem State.discardPartial_egress (ch : ChannelId) :
    (s.discardPartial ch).egress = s.egress := by
  unfold State.discardPartial; split <;> simp
@[simp] theorem State.discardPartial_ingest (ch : ChannelId) :
    (s.discardPartial ch).ingest = s.ingest := by
  unfold State.discardPartial; split <;> simp
@[simp] theorem State.discardPartial_reports (ch : ChannelId) :
    (s.discardPartial ch).reports = s.reports := by
  unfold State.discardPartial; split <;> simp
@[simp] theorem State.discardPartial_freeSerial (ch : ChannelId) :
    (s.discardPartial ch).freeSerial = s.freeSerial := by
  unfold State.discardPartial; split <;> simp
@[simp] theorem State.discardPartial_pending (ch : ChannelId) :
    (s.discardPartial ch).pending = s.pending := by
  unfold State.discardPartial; split <;> simp

/-! ### `State.drawDecoded` -/

@[simp] theorem State.drawDecoded_hold (d : DecodeEntry) (good : Bool) :
    (s.drawDecoded d good).hold = s.hold := by
  unfold State.drawDecoded; dsimp only; split <;> rfl
@[simp] theorem State.drawDecoded_profiles (d : DecodeEntry) (good : Bool) :
    (s.drawDecoded d good).profiles = s.profiles := by
  unfold State.drawDecoded; dsimp only; split <;> rfl
@[simp] theorem State.drawDecoded_windows (d : DecodeEntry) (good : Bool) :
    (s.drawDecoded d good).windows = s.windows := by
  unfold State.drawDecoded; dsimp only; split <;> rfl
@[simp] theorem State.drawDecoded_markers (d : DecodeEntry) (good : Bool) :
    (s.drawDecoded d good).markers = s.markers := by
  unfold State.drawDecoded; dsimp only; split <;> rfl
@[simp] theorem State.drawDecoded_matchFlags (d : DecodeEntry) (good : Bool) :
    (s.drawDecoded d good).matchFlags = s.matchFlags := by
  unfold State.drawDecoded; dsimp only; split <;> rfl
@[simp] theorem State.drawDecoded_settings (d : DecodeEntry) (good : Bool) :
    (s.drawDecoded d good).settings = s.settings := by
  unfold State.drawDecoded; dsimp only; split <;> rfl
@[simp] theorem State.drawDecoded_channels (d : DecodeEntry) (good : Bool) :
    (s.drawDecoded d good).channels = s.channels := by
  unfold State.drawDecoded; dsimp only; split <;> rfl
@[simp] theorem State.drawDecoded_faults (d : DecodeEntry) (good : Bool) :
    (s.drawDecoded d good).faults = s.faults := by
  unfold State.drawDecoded; dsimp only; split <;> rfl
@[simp] theorem State.drawDecoded_decode (d : DecodeEntry) (good : Bool) :
    (s.drawDecoded d good).decode = s.decode := by
  unfold State.drawDecoded; dsimp only; split <;> rfl
@[simp] theorem State.drawDecoded_jobs (d : DecodeEntry) (good : Bool) :
    (s.drawDecoded d good).jobs = s.jobs := by
  unfold State.drawDecoded; dsimp only; split <;> rfl
@[simp] theorem State.drawDecoded_encode (d : DecodeEntry) (good : Bool) :
    (s.drawDecoded d good).encode = s.encode := by
  unfold State.drawDecoded; dsimp only; split <;> rfl
@[simp] theorem State.drawDecoded_small (d : DecodeEntry) (good : Bool) :
    (s.drawDecoded d good).small = s.small := by
  unfold State.drawDecoded; dsimp only; split <;> rfl
@[simp] theorem State.drawDecoded_egress (d : DecodeEntry) (good : Bool) :
    (s.drawDecoded d good).egress = s.egress := by
  unfold State.drawDecoded; dsimp only; split <;> rfl
@[simp] theorem State.drawDecoded_ingest (d : DecodeEntry) (good : Bool) :
    (s.drawDecoded d good).ingest = s.ingest := by
  unfold State.drawDecoded; dsimp only; split <;> rfl
@[simp] theorem State.drawDecoded_reports (d : DecodeEntry) (good : Bool) :
    (s.drawDecoded d good).reports = s.reports := by
  unfold State.drawDecoded; dsimp only; split <;> rfl
@[simp] theorem State.drawDecoded_pending (d : DecodeEntry) (good : Bool) :
    (s.drawDecoded d good).pending = s.pending := by
  unfold State.drawDecoded; dsimp only; split <;> rfl

/-! ### `State.evaluateMarkers` -/

/-- What no single match changes, the evaluation of a unit does not change. -/
theorem State.foldMarkers_keeps {α : Type} (g : State → α) (u : MarkedUnit)
    (h : ∀ (t : State) (i : MarkerId), g (t.markerMatch i u) = g t) (l : List MarkerId) :
    ∀ t : State,
      g (l.foldl (fun t i => if t.markers[i].hits u then t.markerMatch i u else t) t) = g t := by
  induction l with
  | nil => intro t; rfl
  | cons i l ih =>
    intro t
    simp only [List.foldl_cons]
    refine (ih _).trans ?_
    split
    · exact h t i
    · rfl

@[simp] theorem State.evaluateMarkers_hold (u : MarkedUnit) :
    (s.evaluateMarkers u).hold = s.hold := State.foldMarkers_keeps State.hold u (fun t i => by
    simp only [State.markerMatch]; split <;> split <;> simp) _ s
@[simp] theorem State.evaluateMarkers_profiles (u : MarkedUnit) :
    (s.evaluateMarkers u).profiles = s.profiles := State.foldMarkers_keeps State.profiles u (fun t i => by
    simp only [State.markerMatch]; split <;> split <;> simp) _ s
@[simp] theorem State.evaluateMarkers_windows (u : MarkedUnit) :
    (s.evaluateMarkers u).windows = s.windows := State.foldMarkers_keeps State.windows u (fun t i => by
    simp only [State.markerMatch]; split <;> split <;> simp) _ s
@[simp] theorem State.evaluateMarkers_markers (u : MarkedUnit) :
    (s.evaluateMarkers u).markers = s.markers := State.foldMarkers_keeps State.markers u (fun t i => by
    simp only [State.markerMatch]; split <;> split <;> simp) _ s
@[simp] theorem State.evaluateMarkers_settings (u : MarkedUnit) :
    (s.evaluateMarkers u).settings = s.settings := State.foldMarkers_keeps State.settings u (fun t i => by
    simp only [State.markerMatch]; split <;> split <;> simp) _ s
@[simp] theorem State.evaluateMarkers_pool (u : MarkedUnit) :
    (s.evaluateMarkers u).pool = s.pool := State.foldMarkers_keeps State.pool u (fun t i => by
    simp only [State.markerMatch]; split <;> split <;> simp) _ s
@[simp] theorem State.evaluateMarkers_faults (u : MarkedUnit) :
    (s.evaluateMarkers u).faults = s.faults := State.foldMarkers_keeps State.faults u (fun t i => by
    simp only [State.markerMatch]; split <;> split <;> simp) _ s
@[simp] theorem State.evaluateMarkers_decode (u : MarkedUnit) :
    (s.evaluateMarkers u).decode = s.decode := State.foldMarkers_keeps State.decode u (fun t i => by
    simp only [State.markerMatch]; split <;> split <;> simp) _ s
@[simp] theorem State.evaluateMarkers_jobs (u : MarkedUnit) :
    (s.evaluateMarkers u).jobs = s.jobs := State.foldMarkers_keeps State.jobs u (fun t i => by
    simp only [State.markerMatch]; split <;> split <;> simp) _ s
@[simp] theorem State.evaluateMarkers_encode (u : MarkedUnit) :
    (s.evaluateMarkers u).encode = s.encode := State.foldMarkers_keeps State.encode u (fun t i => by
    simp only [State.markerMatch]; split <;> split <;> simp) _ s
@[simp] theorem State.evaluateMarkers_small (u : MarkedUnit) :
    (s.evaluateMarkers u).small = s.small := State.foldMarkers_keeps State.small u (fun t i => by
    simp only [State.markerMatch]; split <;> split <;> simp) _ s
@[simp] theorem State.evaluateMarkers_egress (u : MarkedUnit) :
    (s.evaluateMarkers u).egress = s.egress := State.foldMarkers_keeps State.egress u (fun t i => by
    simp only [State.markerMatch]; split <;> split <;> simp) _ s
@[simp] theorem State.evaluateMarkers_ingest (u : MarkedUnit) :
    (s.evaluateMarkers u).ingest = s.ingest := State.foldMarkers_keeps State.ingest u (fun t i => by
    simp only [State.markerMatch]; split <;> split <;> simp) _ s
@[simp] theorem State.evaluateMarkers_freeSerial (u : MarkedUnit) :
    (s.evaluateMarkers u).freeSerial = s.freeSerial := State.foldMarkers_keeps State.freeSerial u (fun t i => by
    simp only [State.markerMatch]; split <;> split <;> simp) _ s
@[simp] theorem State.evaluateMarkers_pending (u : MarkedUnit) :
    (s.evaluateMarkers u).pending = s.pending := State.foldMarkers_keeps State.pending u (fun t i => by
    simp only [State.markerMatch]; split <;> split <;> simp) _ s

/-! ### `State.takePicture` -/

@[simp] theorem State.takePicture_hold (pic : DecodedPicture) :
    (s.takePicture pic).hold = s.hold := by
  simp [State.takePicture]
@[simp] theorem State.takePicture_profiles (pic : DecodedPicture) :
    (s.takePicture pic).profiles = s.profiles := by
  simp [State.takePicture]
@[simp] theorem State.takePicture_windows (pic : DecodedPicture) :
    (s.takePicture pic).windows = s.windows := by
  simp [State.takePicture]
@[simp] theorem State.takePicture_markers (pic : DecodedPicture) :
    (s.takePicture pic).markers = s.markers := by
  simp [State.takePicture]
@[simp] theorem State.takePicture_settings (pic : DecodedPicture) :
    (s.takePicture pic).settings = s.settings := by
  simp [State.takePicture]
@[simp] theorem State.takePicture_faults (pic : DecodedPicture) :
    (s.takePicture pic).faults = s.faults := by
  simp [State.takePicture]
@[simp] theorem State.takePicture_decode (pic : DecodedPicture) :
    (s.takePicture pic).decode = s.decode := by
  simp [State.takePicture]
@[simp] theorem State.takePicture_encode (pic : DecodedPicture) :
    (s.takePicture pic).encode = s.encode := by
  simp [State.takePicture]
@[simp] theorem State.takePicture_small (pic : DecodedPicture) :
    (s.takePicture pic).small = s.small := by
  simp [State.takePicture]
@[simp] theorem State.takePicture_egress (pic : DecodedPicture) :
    (s.takePicture pic).egress = s.egress := by
  simp [State.takePicture]
@[simp] theorem State.takePicture_ingest (pic : DecodedPicture) :
    (s.takePicture pic).ingest = s.ingest := by
  simp [State.takePicture]
@[simp] theorem State.takePicture_freeSerial (pic : DecodedPicture) :
    (s.takePicture pic).freeSerial = s.freeSerial := by
  simp [State.takePicture]
@[simp] theorem State.takePicture_pending (pic : DecodedPicture) :
    (s.takePicture pic).pending = s.pending := by
  simp [State.takePicture]

end Sys2Proof.Machine
end

