-- ==== Sys2Proof/Laws/Ops.lean ====
section
/-! SUPPORT. What each shared operation can do, said once. Later proofs cite these and do not unfold
the operation. -/

namespace Sys2Proof.Machine

/-! ### Channel records -/

theorem State.channel_modChannel (s : State) (ch : ChannelId) (f : Channel → Channel)
    (x : ChannelId) :
    (s.modChannel ch f).channel x = if x = ch then f (s.channel ch) else s.channel x := by
  simp only [State.channel, State.modChannel, Fin.getElem_fin, Vector.getElem_set]
  by_cases h : x = ch
  · subst h; simp
  · have : ¬ ch.val = x.val := fun e => h (Fin.ext e.symm)
    simp [h, this]

/-- Equal channel tables give equal channel records. -/
theorem State.channel_congr {s t : State} (h : s.channels = t.channels) (ch : ChannelId) :
    s.channel ch = t.channel ch := by
  simp only [State.channel, h]

/-! ### The slot pool -/

/-- A slot rewritten is the one that changes. -/
theorem SlotPool.getElem_put (p : SlotPool) (i j : SlotId) (x : Slot) :
    (p.put i x).slots[j] = if j = i then x else p.slots[j] := by
  simp only [SlotPool.put, Fin.getElem_fin, Vector.getElem_set, eq_comm (a := i.val), Fin.ext_iff]

theorem SlotPool.mark_state (p : SlotPool) (i j : SlotId) (st : SlotState) :
    ((p.mark i st).slots[j]).state = if j = i then st else (p.slots[j]).state := by
  simp only [SlotPool.mark, SlotPool.getElem_put]; split <;> rfl

theorem SlotPool.release_state (p : SlotPool) (i j : SlotId) :
    ((p.release i).slots[j]).state = if j = i then .free else (p.slots[j]).state :=
  p.mark_state i j .free

/-- R89: no change of a slot's state touches a picture area. -/
@[simp] theorem SlotPool.mark_picture (p : SlotPool) (i j : SlotId) (st : SlotState) :
    ((p.mark i st).slots[j]).picture = (p.slots[j]).picture := by
  simp only [SlotPool.mark, SlotPool.getElem_put]
  by_cases h : j = i
  · subst h; simp
  · simp [h]

@[simp] theorem SlotPool.release_picture (p : SlotPool) (i j : SlotId) :
    ((p.release i).slots[j]).picture = (p.slots[j]).picture :=
  p.mark_picture i j .free

/-- A write of a picture area touches no slot's state. -/
@[simp] theorem SlotPool.draw_state (p : SlotPool) (i j : SlotId) (area : PictureArea) :
    ((p.draw i area).slots[j]).state = (p.slots[j]).state := by
  simp only [SlotPool.draw, SlotPool.getElem_put]
  by_cases h : j = i
  · subst h; simp
  · simp [h]

@[simp] theorem SlotPool.draw_free (p : SlotPool) (i : SlotId) (area : PictureArea) :
    (p.draw i area).free = p.free := rfl
@[simp] theorem SlotPool.draw_reserved (p : SlotPool) (i : SlotId) (area : PictureArea) :
    (p.draw i area).reserved = p.reserved := rfl
@[simp] theorem SlotPool.mark_free (p : SlotPool) (i : SlotId) (st : SlotState) :
    (p.mark i st).free = p.free := rfl
@[simp] theorem SlotPool.mark_reserved (p : SlotPool) (i : SlotId) (st : SlotState) :
    (p.mark i st).reserved = p.reserved := rfl
@[simp] theorem SlotPool.release_free (p : SlotPool) (i : SlotId) :
    (p.release i).free = p.free ++ [i] := rfl
@[simp] theorem SlotPool.release_reserved (p : SlotPool) (i : SlotId) :
    (p.release i).reserved = p.reserved := rfl

@[simp] theorem SlotPool.releaseAll_free (slots : List SlotId) :
    ∀ p : SlotPool, (p.releaseAll slots).free = p.free ++ slots := by
  induction slots with
  | nil => intro p; simp [SlotPool.releaseAll]
  | cons i l ih => intro p; simpa [SlotPool.releaseAll] using ih (p.release i)

@[simp] theorem SlotPool.releaseAll_reserved (slots : List SlotId) :
    ∀ p : SlotPool, (p.releaseAll slots).reserved = p.reserved := by
  induction slots with
  | nil => intro p; rfl
  | cons i l ih => intro p; exact ih (p.release i)

/-- A source slot's count falling never shortens the free list, and leaves the RESERVED slots. -/
theorem SlotPool.dropSource_lists (p : SlotPool) (i : SlotId) :
    ((p.dropSource i).free = p.free ∨ (p.dropSource i).free = p.free ++ [i])
      ∧ (p.dropSource i).reserved = p.reserved := by
  unfold SlotPool.dropSource
  split
  · split
    · exact ⟨.inr rfl, rfl⟩
    · exact ⟨.inl rfl, rfl⟩
  · exact ⟨.inl rfl, rfl⟩

/-- The slots an OPEN takes: the first `v` of the free list, in order, each entering the state. -/
theorem SlotPool.takeMany_spec (v : Nat) (st : SlotState) :
    ∀ p : SlotPool, v ≤ p.free.length →
      (SlotPool.takeMany v st p).1 = p.free.take v
        ∧ (SlotPool.takeMany v st p).2.free = p.free.drop v
        ∧ (SlotPool.takeMany v st p).2.reserved = p.reserved
        ∧ ∀ j : SlotId, (SlotPool.takeMany v st p).2.slots[j] =
          if j ∈ p.free.take v then { p.slots[j] with state := st } else p.slots[j] := by
  induction v with
  | zero => intro p _; simp [SlotPool.takeMany]
  | succ n ih =>
    intro p h
    cases hf : p.free with
    | nil => simp [hf] at h
    | cons i rest =>
      simp only [SlotPool.takeMany, SlotPool.take, hf]
      obtain ⟨a1, a2, a3, a4⟩ := ih { p.mark i st with free := rest } (by simpa [hf] using h)
      refine ⟨congrArg (i :: ·) a1, a2, a3, fun j => (a4 j).trans ?_⟩
      simp only [SlotPool.mark, SlotPool.put, Fin.getElem_fin, Vector.getElem_set,
        List.take_succ_cons, List.mem_cons]
      by_cases hji : i = j
      · subst hji; simp
      · have h1 : ¬ (i.val = j.val) := fun h => hji (Fin.ext h)
        have h2 : ¬ j = i := fun h => hji h.symm
        simp [h1, h2]

/-- The slots a PICTURE grant reserves: the first `n` of the free list, in order. -/
theorem SlotPool.reserveMany_spec (n : Nat) :
    ∀ p : SlotPool, n ≤ p.free.length →
      (SlotPool.reserveMany n p).free = p.free.drop n
        ∧ (SlotPool.reserveMany n p).reserved = p.reserved ++ p.free.take n
        ∧ ∀ j : SlotId, (SlotPool.reserveMany n p).slots[j] =
          if j ∈ p.free.take n then { p.slots[j] with state := .reserved } else p.slots[j] := by
  induction n with
  | zero => intro p _; simp [SlotPool.reserveMany]
  | succ n ih =>
    intro p h
    cases hf : p.free with
    | nil => simp [hf] at h
    | cons i rest =>
      have e : p.reserve =
          { p.mark i .reserved with free := rest, reserved := p.reserved ++ [i] } := by
        simp [SlotPool.reserve, SlotPool.take, hf]
      obtain ⟨a1, a2, a3⟩ := ih p.reserve (by rw [e]; simpa [hf] using h)
      simp only [SlotPool.reserveMany]
      refine ⟨a1.trans (by rw [e]; rfl), a2.trans (by rw [e]; simp), fun j => (a3 j).trans ?_⟩
      rw [e]
      simp only [SlotPool.mark, SlotPool.put, Fin.getElem_fin, Vector.getElem_set,
        List.take_succ_cons, List.mem_cons]
      by_cases hji : i = j
      · subst hji; simp
      · have h1 : ¬ (i.val = j.val) := fun h => hji (Fin.ext h)
        have h2 : ¬ j = i := fun h => hji h.symm
        simp [h1, h2]

/-! ### Reports, the return direction, hold and stall -/

/-- Offering events only ever lengthens the report queue, by events, and never beyond 32 places. -/
theorem State.raiseAll_spec (es : List Event) :
    ∀ s : State, ∃ (added : List Report) (lost : Bool),
      s.raiseAll es = { s with
          reports := { queue := s.reports.queue ++ added, lostPending := lost } }
        ∧ (∀ x ∈ added, ∃ e, x.body = .event e)
        ∧ (s.ReportPlaces → (s.raiseAll es).ReportPlaces) := by
  induction es with
  | nil => exact fun s => ⟨[], s.reports.lostPending, by simp [State.raiseAll], by simp, id⟩
  | cons e es ih =>
    intro s
    obtain ⟨added, lost, h1, h2, h3⟩ := ih (s.raise e)
    simp only [State.raiseAll, List.foldl_cons] at h1 h3 ⊢
    simp only [State.raise, ReportQueue.push] at h1 h3 ⊢
    by_cases hc : s.reportCount < Config.reportQueueEntries
    · simp only [hc, if_true] at h1 h3 ⊢
      refine ⟨{ eventsLost := s.reports.lostPending, body := .event e } :: added, lost,
        by rw [h1]; simp, ?_, fun hp => h3 ?_⟩
      · intro x hx
        rcases List.mem_cons.1 hx with rfl | hx
        · exact ⟨e, rfl⟩
        · exact h2 x hx
      · simp only [State.reportCount, IngestPort.directiveHeld, Config.reportQueueEntries] at hc
        simp only [State.ReportPlaces, List.length_append, List.length_cons, List.length_nil]
        omega
    · simp only [hc, if_false] at h1 h3 ⊢
      exact ⟨added, lost, by rw [h1], h2, fun hp => h3 hp⟩

/-- An idle return direction may begin a frame; nothing else changes. -/
theorem State.beginReturn_spec (s : State) :
    ∃ w, s.beginReturn = { s with ingest := { s.ingest with wire := w } } := by
  simp only [State.beginReturn]
  split
  · split
    · exact ⟨_, rfl⟩
    · split
      · exact ⟨_, rfl⟩
      · exact ⟨s.ingest.wire, rfl⟩
  · exact ⟨s.ingest.wire, rfl⟩

/-- The stall timer's test writes the stall timer alone. -/
theorem State.startStall_spec (s : State) :
    ∃ t, s.startStall = { s with egress := { s.egress with stallTimer := t } } := by
  unfold State.startStall
  split
  · exact ⟨_, rfl⟩
  · exact ⟨s.egress.stallTimer, rfl⟩

/-- A hold's decision enters HELD and stops both timers, or changes nothing. -/
theorem State.decideHold_spec (s : State) :
    (s.decideHold = (s, []))
      ∨ (s.hold.part = .holdPending ∧ s.idleReached = true
        ∧ s.decideHold = (s.enterHeld, [.holdResult .accepted])) := by
  unfold State.decideHold
  by_cases h : (s.hold.part == .holdPending && s.idleReached) = true
  · rw [if_pos h]
    simp only [Bool.and_eq_true, beq_iff_eq] at h
    exact .inr ⟨h.1, h.2, rfl⟩
  · rw [if_neg h]; exact .inl rfl

/-! ### Directive frames -/

/-- The taking of a directive touches the ingest port's credits and wire alone. -/
theorem State.taking_spec (s : State) :
    ∃ i : IngestPort, s.taking = { s with ingest := i } ∧ i.link = s.ingest.link
      ∧ i.counters = s.ingest.counters ∧ i.creditQueue = s.ingest.creditQueue
      ∧ i.smallOutstanding = s.ingest.smallOutstanding := by
  obtain ⟨w, hw⟩ := s.beginReturn_spec
  simp only [State.taking, hw]
  split <;> exact ⟨_, rfl, rfl, rfl, rfl, rfl⟩

/-- Taking a directive moves one held credit in hand and keeps the number held. -/
theorem State.taking_held {s : State} {f : DirectiveFrame} (h : s.Hands f) :
    0 < s.taking.ingest.inHand
      ∧ s.taking.ingest.directiveUnspent + s.taking.ingest.inHand =
        s.ingest.directiveUnspent + s.ingest.inHand := by
  obtain ⟨w, hw⟩ := s.beginReturn_spec
  simp only [State.taking, hw]
  rcases h with h | ⟨h1, _, h3, _⟩
  · simp [h]
  · simp only [h1]; simp; omega

theorem payloadPasses_iff (p : Payload) : payloadPasses p = true ↔ PayloadGood p := by
  simp [payloadPasses, PayloadGood]

theorem State.Delivers.inRange {s : State} {p : Payload} (h : s.Delivers p) :
    lengthInRange p.length.toNat = true := by
  obtain ⟨_, h1, h2⟩ := h
  simp [lengthInRange, Config.maxPayloadBytes, h1, h2]

/-- R135 to R137: a directive frame that reaches the directive unit is admitted. -/
theorem State.admitDirective_of_hands {s : State} {f : DirectiveFrame} (h : s.Hands f) :
    s.beginReturn.admitDirective f = .admitted s.taking := by
  obtain ⟨w, hw⟩ := s.beginReturn_spec
  simp only [State.taking, hw, State.admitDirective]
  rcases h with h | ⟨h1, h2, h3, h4⟩
  · simp [h]
  · have h5 := h2.inRange
    have h6 := (payloadPasses_iff f.payload).2 h4
    have h7 : ¬ s.ingest.directiveUnspent = 0 := by omega
    simp [h1, h2.1, h5, h6, h7]

/-- R148: such a frame's command is the taking of the directive. -/
theorem runDirective_of_hands {s : State} {f : DirectiveFrame} (h : s.Hands f) (code : Byte)
    (n : Nat) (act : List Byte → State → State × Answer) :
    runDirective code n act f s = .next (s.taking.takeDirective code n act f) := by
  simp [runDirective, State.admitDirective_of_hands h]

/-- R149: a body of the right length is its directive's to answer. -/
theorem State.takeDirective_of_length {s : State} {f : DirectiveFrame} {n : Nat}
    (hl : f.payload.bytes.length = n) (code : Byte)
    (act : List Byte → State → State × Answer) :
    s.takeDirective code n act f =
      ((act f.payload.bytes s).1.reply f.tag code (act f.payload.bytes s).2.result
        (act f.payload.bytes s).2.data).raiseAll (act f.payload.bytes s).2.events := by
  simp [State.takeDirective, hl]

/-! ### Operands -/

theorem bodyNat_byte (b : List Byte) (o : Nat) (h : o < b.length) :
    bodyNat b o 1 = (byteAt b o).toNat := by
  simp [bodyNat, field, beNat, byteAt, List.take_one, h]

theorem objectNumber_of_lt {n x : Nat} (h : x < n) : objectNumber n x = some ⟨x, h⟩ := by
  simp [objectNumber, h]

theorem objectNumber_of_le {n x : Nat} (h : n ≤ x) : objectNumber n x = none := by
  simp [objectNumber, Nat.not_lt.mpr h]

theorem readProfileChoice_eq (x : Nat) :
    readProfileChoice x =
      if x = 255 then .absent else if h : x < 16 then .named ⟨x, h⟩ else .bad := by
  simp only [readProfileChoice, objectNumber]
  split
  · rfl
  · split <;> rename_i h <;> split at h <;> simp_all

/-- R29 and R52: the test the windows and the markers share. -/
theorem agreeOutside_iff {w : Nat} (x v m : BitVec w) :
    agreeOutside x v m = true ↔ AgreeWhereZero x v m := by
  simp only [agreeOutside, AgreeWhereZero, beq_iff_eq]
  constructor
  · intro h b hb hm
    have := congrArg (fun z => z.getLsbD b) h
    simp only [BitVec.getLsbD_and, BitVec.getLsbD_xor, BitVec.getLsbD_not, BitVec.getLsbD_zero, hb,
      hm, decide_true, Bool.not_false, Bool.and_true] at this
    cases hx : x.getLsbD b <;> cases hv : v.getLsbD b <;> simp [hx, hv] at this ⊢
  · intro h
    apply BitVec.eq_of_getLsbD_eq
    intro b hb
    simp only [BitVec.getLsbD_and, BitVec.getLsbD_xor, BitVec.getLsbD_not, hb, BitVec.getLsbD_zero]
    cases hm : m.getLsbD b
    · simp [h b hb hm]
    · simp

/-! ### Fullness and reads -/

/-- R68: an update of the fullness writes one context, and two counters at most. -/
theorem Channel.updateFullness_spec (c : Channel) (x : RenditionSpec) (r delta size : Nat) :
    ∃ (contexts : List RenditionContext) (counters : ChannelCounters),
      c.updateFullness x r delta size = { c with contexts := contexts, counters := counters }
        ∧ contexts.length = c.contexts.length := by
  unfold Channel.updateFullness
  split
  · exact ⟨c.contexts, c.counters, rfl, rfl⟩
  · exact ⟨_, _, rfl, by simp [Channel.modContext]⟩

/-- R97: a read writes the fault log and offers at most one event. -/
theorem State.reportRead_spec (s : State) (o : ReadOutcome) (r : FaultRecord) :
    ∃ (l : FaultLog) (es : List Event),
      s.reportRead o r = State.raiseAll { s with faults := l } es := by
  cases o
  · exact ⟨s.faults, [], rfl⟩
  · exact ⟨s.faults.logCorrectable r, [], rfl⟩
  · simp only [State.reportRead]
    split
    · exact ⟨s.faults.logUncorrectable r, [.memoryFault r], rfl⟩
    · exact ⟨s.faults.logUncorrectable r, [], rfl⟩

/-- R94: a discarded partial picture leaves everything but its slot and its channel's record. -/
theorem State.discardPartial_spec (s : State) (ch : ChannelId) :
    ∃ (pool : SlotPool) (channels : Vector Channel 32),
      s.discardPartial ch = { s with pool := pool, channels := channels }
        ∧ s.pool.free.length ≤ pool.free.length ∧ pool.reserved = s.pool.reserved := by
  unfold State.discardPartial
  split
  · exact ⟨s.pool, s.channels, rfl, le_refl _, rfl⟩
  · exact ⟨_, _, rfl, by simp [State.releaseSlot], rfl⟩

end Sys2Proof.Machine
end

