-- ==== Sys2Proof/Laws/PerInstr.lean ====
section
/-! SUPPORT. Laws made command by command. Frames: every forward frame that is written for a command
carries a good header check (R164). -/

namespace Sys2Proof.Laws

open Machine

/-- A sealed header of 14 bytes passes R164's header check. -/
theorem headerChecks_seal (first14 : List Byte) (h : first14.length = 14) :
    headerChecks (sealHeader first14) = true := by
  have htake : (sealHeader first14).take 14 = first14 := by
    simp [sealHeader, h]
  have hlen : (sealHeader first14).length = 16 := by simp [sealHeader, beBytes, h]
  have hfield : field (sealHeader first14) 14 2 = beBytes 2 (crc16 first14).toNat := by
    simp [field, sealHeader, h, beBytes]
  have hlt := (crc16 first14).isLt
  simp only [headerChecks, headerCheckOf, htake, hlen, hfield, beBytes, List.nil_append, beNat,
    List.cons_append, List.foldl_cons, List.foldl_nil, BitVec.toNat_ofNat, beq_self_eq_true,
    Bool.true_and, beq_iff_eq]
  omega

/-- A directive frame as written carries a good header check. -/
theorem headerChecks_directive (code : Byte) (d : DirectiveFrame) :
    headerChecks (Decode.directiveRaw code d).header = true :=
  headerChecks_seal _ (by simp [beBytes, zeros])

/-- A media frame as written carries a good header check. -/
theorem headerChecks_media (kind : Nat) (p : Position) (m : MediaFrame) :
    headerChecks (Decode.mediaRaw kind p m).header = true :=
  headerChecks_seal _ (by simp [beBytes, zeros])

/-- The family's statement about one command. -/
def Frames.Statement (i : Instr) : Prop :=
  ∀ f, Decode.toFrame i = some f → headerChecks f.header = true

theorem Frames.setLink (f : DirectiveFrame) : Frames.Statement (.setLink f) := by
  intro g h; cases h; exact headerChecks_directive _ _
theorem Frames.queryPart (f : DirectiveFrame) : Frames.Statement (.queryPart f) := by
  intro g h; cases h; exact headerChecks_directive _ _
theorem Frames.loadProfile (f : DirectiveFrame) : Frames.Statement (.loadProfile f) := by
  intro g h; cases h; exact headerChecks_directive _ _
theorem Frames.readProfile (f : DirectiveFrame) : Frames.Statement (.readProfile f) := by
  intro g h; cases h; exact headerChecks_directive _ _
theorem Frames.loadWindow (f : DirectiveFrame) : Frames.Statement (.loadWindow f) := by
  intro g h; cases h; exact headerChecks_directive _ _
theorem Frames.readWindow (f : DirectiveFrame) : Frames.Statement (.readWindow f) := by
  intro g h; cases h; exact headerChecks_directive _ _
theorem Frames.loadMarker (f : DirectiveFrame) : Frames.Statement (.loadMarker f) := by
  intro g h; cases h; exact headerChecks_directive _ _
theorem Frames.readMarker (f : DirectiveFrame) : Frames.Statement (.readMarker f) := by
  intro g h; cases h; exact headerChecks_directive _ _
theorem Frames.clearMatch (f : DirectiveFrame) : Frames.Statement (.clearMatch f) := by
  intro g h; cases h; exact headerChecks_directive _ _
theorem Frames.openChannel (f : DirectiveFrame) : Frames.Statement (.openChannel f) := by
  intro g h; cases h; exact headerChecks_directive _ _
theorem Frames.closeChannel (f : DirectiveFrame) : Frames.Statement (.closeChannel f) := by
  intro g h; cases h; exact headerChecks_directive _ _
theorem Frames.abortChannel (f : DirectiveFrame) : Frames.Statement (.abortChannel f) := by
  intro g h; cases h; exact headerChecks_directive _ _
theorem Frames.queryChannel (f : DirectiveFrame) : Frames.Statement (.queryChannel f) := by
  intro g h; cases h; exact headerChecks_directive _ _
theorem Frames.readFaultLog (f : DirectiveFrame) : Frames.Statement (.readFaultLog f) := by
  intro g h; cases h; exact headerChecks_directive _ _
theorem Frames.clearFaultLog (f : DirectiveFrame) : Frames.Statement (.clearFaultLog f) := by
  intro g h; cases h; exact headerChecks_directive _ _
theorem Frames.hold (f : DirectiveFrame) : Frames.Statement (.hold f) := by
  intro g h; cases h; exact headerChecks_directive _ _
theorem Frames.release (f : DirectiveFrame) : Frames.Statement (.release f) := by
  intro g h; cases h; exact headerChecks_directive _ _
theorem Frames.restart (f : DirectiveFrame) : Frames.Statement (.restart f) := by
  intro g h; cases h; exact headerChecks_directive _ _
theorem Frames.unknownDirective (code : Byte) (f : DirectiveFrame) :
    Frames.Statement (.unknownDirective code f) := by
  intro g h; cases h; exact headerChecks_directive _ _
theorem Frames.pictureStartFrame (p : StartPosition) (f : MediaFrame) :
    Frames.Statement (.pictureStartFrame p f) := by
  intro g h; cases h; exact headerChecks_media _ _ _
theorem Frames.pictureContinuationFrame (p : ContinuationPosition) (f : MediaFrame) :
    Frames.Statement (.pictureContinuationFrame p f) := by
  intro g h; cases h; exact headerChecks_media _ _ _
theorem Frames.smallUnitFrame (k : SmallKind) (p : Position) (f : MediaFrame) :
    Frames.Statement (.smallUnitFrame k p f) := by
  intro g h; cases h; exact headerChecks_media _ _ _
theorem Frames.headerCheckFailure (header : List Byte) :
    Frames.Statement (.headerCheckFailure header) := by
  intro g h; cases h
theorem Frames.ingestLinkUp : Frames.Statement .ingestLinkUp := by
  intro g h; cases h
theorem Frames.ingestLinkDown (inHand : Nat) : Frames.Statement (.ingestLinkDown inHand) := by
  intro g h; cases h
theorem Frames.pictureCreditGrant : Frames.Statement .pictureCreditGrant := by
  intro g h; cases h
theorem Frames.smallCreditGrant : Frames.Statement .smallCreditGrant := by
  intro g h; cases h
theorem Frames.directiveCreditGrant : Frames.Statement .directiveCreditGrant := by
  intro g h; cases h
theorem Frames.creditFrameSent : Frames.Statement .creditFrameSent := by
  intro g h; cases h
theorem Frames.reportFrameSent : Frames.Statement .reportFrameSent := by
  intro g h; cases h
theorem Frames.egressCredit (f : RawFrame) : Frames.Statement (.egressCredit f) := by
  intro g h; cases h
theorem Frames.egressLinkUp : Frames.Statement .egressLinkUp := by
  intro g h; cases h
theorem Frames.egressLinkDown : Frames.Statement .egressLinkDown := by
  intro g h; cases h
theorem Frames.egressRead (o : ReadOutcome) : Frames.Statement (.egressRead o) := by
  intro g h; cases h
theorem Frames.egressFrameBegin : Frames.Statement .egressFrameBegin := by
  intro g h; cases h
theorem Frames.egressFrameSent : Frames.Statement .egressFrameSent := by
  intro g h; cases h
theorem Frames.stallTimerExpiry : Frames.Statement .stallTimerExpiry := by
  intro g h; cases h
theorem Frames.decodeDispatch : Frames.Statement .decodeDispatch := by
  intro g h; cases h
theorem Frames.decodeCompletion (e : DecodeEngineId) (o : ReadOutcome) (decodable : Bool) :
    Frames.Statement (.decodeCompletion e o decodable) := by
  intro g h; cases h
theorem Frames.takeHeldPicture : Frames.Statement .takeHeldPicture := by
  intro g h; cases h
theorem Frames.engineDispatch : Frames.Statement .engineDispatch := by
  intro g h; cases h
theorem Frames.skipCompletion (ch : ChannelId) (r : Fin 4) :
    Frames.Statement (.skipCompletion ch r) := by
  intro g h; cases h
theorem Frames.encodeCompletion (e : EncodeEngineId) (report : CompletionReport) :
    Frames.Statement (.encodeCompletion e report) := by
  intro g h; cases h
theorem Frames.segmentRecord (ch : ChannelId) : Frames.Statement (.segmentRecord ch) := by
  intro g h; cases h
theorem Frames.finalSegmentClose (ch : ChannelId) : Frames.Statement (.finalSegmentClose ch) := by
  intro g h; cases h
theorem Frames.drainCompletion (ch : ChannelId) : Frames.Statement (.drainCompletion ch) := by
  intro g h; cases h
theorem Frames.abortCompletion (ch : ChannelId) : Frames.Statement (.abortCompletion ch) := by
  intro g h; cases h
theorem Frames.processCueUnit : Frames.Statement .processCueUnit := by
  intro g h; cases h
theorem Frames.processAudioUnit : Frames.Statement .processAudioUnit := by
  intro g h; cases h
theorem Frames.idleTimerExpiry : Frames.Statement .idleTimerExpiry := by
  intro g h; cases h
theorem Frames.powerOnReset : Frames.Statement .powerOnReset := by
  intro g h; cases h
theorem Frames.encodeEngineRead (e : EncodeEngineId) (r : EngineRead) (o : ReadOutcome) :
    Frames.Statement (.encodeEngineRead e r o) := by
  intro g h; cases h
theorem Frames.unitKindNoneFrame (p : Position) (f : MediaFrame) :
    Frames.Statement (.unitKindNoneFrame p f) := by
  intro g h; cases h; exact headerChecks_media _ _ _

end Sys2Proof.Laws
end

