-- ==== Sys2Proof/Tests/Slice0.lean ====
section
/-! SUPPORT. Tests: the checks of WellFormed on ill-formed terms, one or two small tests for each
command, with results taken from the manual's worked examples and tables, and for each statement with
hypotheses a state and operands that meet them. -/

namespace Sys2Proof.Tests

set_option Elab.async false

open Machine

/-! ### Helpers -/

/-- Bytes from numbers. -/
def bytes (xs : List Nat) : List Byte := xs.map (BitVec.ofNat 8)

/-- A directive frame with a body. -/
def dir (xs : List Nat) : DirectiveFrame := { tag := 0x0102, payload := payloadOf (bytes xs) }

/-- A media frame of a channel. -/
def med (ch : ChannelId) (sequence : BitVec 8) (time : Nat) (xs : List Nat) : MediaFrame :=
  { channel := ch, sequence := sequence, flags := 0, timestamp := BitVec.ofNat 32 time,
    payload := payloadOf (bytes xs) }

/-- The state a command leaves, read by a function. -/
def after {α : Type} (c : Instr) (s : State) (g : State → α) : Option α :=
  match exec c s with
  | .next t => some (g t)
  | .fault _ => none
  | .refused _ => none

/-- A command carried out with a directive in hand (assumption 6), so that no frame check is in the
way of its own rule. -/
def handed (s : State) : State :=
  { s with ingest := { s.ingest with inHand := 1 } }

/-- The reply at the tail of the report queue. -/
def lastReply (s : State) : Option (Result × ReplyData) :=
  match (s.reports.queue.getLast?).map Report.body with
  | some (.reply _ _ r d) => some (r, d)
  | _ => none

/-- The event at the tail of the report queue. -/
def lastEvent (s : State) : Option Event :=
  match (s.reports.queue.getLast?).map Report.body with
  | some (.event e) => some e
  | _ => none

/-- The ingest link UP, with the outstanding credits given and the first slots RESERVED. -/
def linked (s : State) (small directive : Nat) (slots : List SlotId) : State :=
  { s with
    ingest := { s.ingest with
      link := .up, smallOutstanding := small, directiveUnspent := directive }
    pool := { s.pool with
      free := (List.finRange 512).filter (fun i => !slots.contains i), reserved := slots } }

/-- The rendition of section 4.7. -/
def smallest : RenditionSpec :=
  { width := 1280, height := 720, bitrate := 64000, window := 1, qnom := 40, qmin := 30, qmax := 63,
    gain := 15, keyOffset := 0, cap := 16 }

/-- A profile with one rendition, D 192,000 and M 96,000 (section 3.6), and the leveller's values of
section 8.4. -/
def recipe : Profile :=
  { valid := true, count := 1, audioEnabled := 1, segmentTicks := 192000, minimumTicks := 96000,
    intervalHint := 1600, renditions := Vector.replicate 4 smallest, initialGain := 6144,
    maximumGain := 8192, high := 29000, low := 4000, quietRun := 3 }

/-- A rendition context with slot 500 for its reference. -/
def context (fullness : Nat) : RenditionContext :=
  { reference := 500, referenceValid := true, fullness := fullness, skipPending := false,
    dims := some (1280, 720), lastQI := some 40, inFlight := false }

/-- A segment entry. -/
def entry (number : Nat) (state : SegmentState) (start outstanding : Nat) : SegmentEntry :=
  { number := number, state := state, start := start, pictures := 60, outstanding := outstanding,
    bytes := Vector.replicate 5 0, chapter := none }

/-- A RUNNING channel of profile P3, past its first good picture. -/
def running : Channel :=
  { Channel.cleared with
    state := .running, profile := 3, cls := 2, base := some 1000, lastPicture := some 97000
    firstGood := true, pictureNumber := 60, lastDelta := 1600, nextCut := 192000
    segments := [entry 0 .opened 0 2], contexts := [context 32000]
    leveller := { gain := 6144, quietRun := 0 } }

/-- The part with P3 valid and one channel record. -/
def withChannel (ch : ChannelId) (c : Channel) : State :=
  { State.reset with
    profiles := State.reset.profiles.set 3 recipe
    channels := State.reset.channels.set ch c }

/-- An engine job of channel 3, rendition 0, its source in slot 7. -/
def job (state : JobState) : Job :=
  { channel := 3, rendition := 0, picture := 60, segment := 0,
    source := some { slot := 7, width := 1920, height := 1080 }, time := 96000, delta := 1600,
    keyRequired := false, skip := false, cls := 2, state := state }

/-- The dispatch record of a job on EE0, its recon slot 8. -/
def onEngine : DispatchRecord :=
  { engine := 0, qi := 40, cap := 16384, recon := 8, width := 1280, height := 720, key := false }

/-- Channel 3 with one RUNNING job on EE0: source slot 7, recon slot 8, reference slot 500. -/
def encoding (c : Channel) (abandoned : Bool) : State :=
  { withChannel 3 c with
    jobs := [job (.running onEngine abandoned)]
    encode := State.reset.encode.set 0 (.busy none none)
    egress := { EgressPort.powerOn with reservedBytes := 16384 }
    pool := { ((SlotPool.powerUp.mark 7 (.source 1)).mark 8 .recon).mark 500 .reference with
      free := (List.finRange 512).filter (fun i => i != 7 && i != 8 && i != 500) } }

/-- A completion report. -/
def report (size : Nat) (capped : Bool) : CompletionReport :=
  { size := size, key := false, capped := capped, sourceDamaged := false, referenceDamaged := false }

/-! ### WellFormed -/

theorem test_wellFormed_length_zero :
    (Instr.queryPart { tag := 0, payload := payloadOf [] }).wellFormed = false := by decide +kernel
theorem test_wellFormed_length_above :
    (Instr.unitKindNoneFrame .only { med 0 0 0 [] with
      payload := { length := 8193, bytes := [], check := 0 } }).wellFormed = false := by
  decide +kernel
theorem test_wellFormed_named_code :
    (Instr.unknownDirective 0x12 (dir [0])).wellFormed = false := by decide +kernel
theorem test_wellFormed_passing_header :
    (Instr.headerCheckFailure (Decode.directiveRaw 1 (dir [0])).header).wellFormed = false := by
  decide +kernel
theorem test_wellFormed_in_hand : (Instr.ingestLinkDown 33).wellFormed = false := by decide +kernel
theorem test_wellFormed_egress_header :
    (Instr.egressCredit { header := [], payload := [], check := 0 }).wellFormed = false := by
  decide +kernel
theorem test_wellFormed_report_small :
    (Instr.encodeCompletion 0 (report 15 false)).wellFormed = false := by decide +kernel
theorem test_wellFormed_report_large :
    (Instr.encodeCompletion 0 (report 1048577 false)).wellFormed = false := by decide +kernel
theorem test_wellFormed_report_source :
    (Instr.encodeCompletion 0 { report 17 false with sourceDamaged := true }).wellFormed = false := by
  decide +kernel
theorem test_wellFormed_report_reference :
    (Instr.encodeCompletion 0 { report 17 false with referenceDamaged := true }).wellFormed
      = false := by decide +kernel
theorem test_wellFormed_clean_read :
    (Instr.encodeEngineRead 0 .source .clean).wellFormed = false := by decide +kernel
theorem test_wellFormed_accepts :
    (Instr.encodeCompletion 0 (report 16 false)).wellFormed = true
      ∧ (Instr.unknownDirective 0x13 (dir [0])).wellFormed = true := by decide +kernel

/-! ### Checks and frames (R164, R165) -/

/-- The published check value of this CRC-16 over the digits 1 to 9. -/
theorem test_crc16_check :
    crc16 (bytes [49, 50, 51, 52, 53, 54, 55, 56, 57]) = 0x29B1#16 := by decide +kernel
/-- The published check value of this CRC-32 over the digits 1 to 9. -/
theorem test_crc32_check :
    crc32 (bytes [49, 50, 51, 52, 53, 54, 55, 56, 57]) = 0xFC891918#32 := by decide +kernel
/-- R165: a MEDIA header written out byte by byte: channel 3, AUDIO ONLY, sequence 9, flags 0102h,
timestamp 03040506h, with a reserved channel bit set. -/
theorem test_read_media_frame :
    Decode.ofFrame
      { header := sealHeader (bytes [1, 0x23, 0x01, 9, 0, 0, 1, 2, 3, 4, 5, 6, 0, 2])
        payload := bytes [7, 8], check := 0 } =
      .smallUnitFrame .audio .only
        { channel := 3, sequence := 9, flags := 0x0102, timestamp := 0x03040506
          payload := { length := 2, bytes := bytes [7, 8], check := 0 } } := by decide +kernel
/-- R165 and R166: a DIRECTIVE header written out byte by byte: tag 0A0Bh, code 0Bh (CLOSE). -/
theorem test_read_directive_frame :
    Decode.ofFrame
      { header := sealHeader (bytes [2, 0, 0x0A, 0x0B, 0x0B, 0, 0, 0, 0, 0, 0, 0, 0, 4])
        payload := bytes [5, 0, 0, 0], check := 0 } =
      .closeChannel { tag := 0x0A0B, payload := { length := 4, bytes := bytes [5, 0, 0, 0],
                                                  check := 0 } } := by decide +kernel
/-- R165: a DIRECTIVE frame whose kind byte is EGRESS CREDIT's is a header check failure. -/
theorem test_read_foreign_kind :
    Decode.ofFrame
      { header := sealHeader (bytes [7, 0, 0, 1, 0, 0, 0, 0, 0, 0, 0, 0, 0, 4])
        payload := bytes [0, 0, 0, 0], check := 0 } =
      .headerCheckFailure
        (sealHeader (bytes [7, 0, 0, 1, 0, 0, 0, 0, 0, 0, 0, 0, 0, 4])) := by decide +kernel
/-- R165: the header of a granted PICTURE credit of 8. -/
theorem test_grant_header :
    (CreditFrame.grant .picture 8).frame.header.take 14 =
      bytes [3, 0, 0, 8, 0, 0, 0, 0, 0, 0, 0, 0, 0, 4] := by decide +kernel
/-- R168: the record of section 3.6's segment 1, with its chapter. -/
theorem test_segment_record_layout :
    (({ channel := 3, number := 1, start := 96000, duration := 192000, pictures := 120,
        bytes := #v[256, 0, 0, 0, 1],
        chapter := some { marker := 0, notBefore := 50000 } } : SegmentRecord).layout).take 28 =
      bytes [1, 3, 1, 0, 0, 0, 0, 1, 0, 1, 0x77, 0, 0, 2, 0xEE, 0, 0, 0, 0, 120,
             0, 0, 0, 0, 0, 0, 1, 0] := by decide +kernel

/-! ### Directives -/

/-- R155: a PICTURE limit of 0 fails field 1; the settings stay. -/
theorem test_setLink_zero_limit :
    after (.setLink (dir [0, 32, 16, 0, 0x13, 0x88, 0, 0])) (handed State.reset)
      (fun t => (lastReply t, t.settings)) =
      some (some (.badField 1, .none), LinkSettings.powerOn) := by decide +kernel
/-- R155: the upper ends of the four ranges. -/
theorem test_setLink_upper_ends :
    after (.setLink (dir [16, 64, 0x20, 0, 0xEA, 0x60, 0, 0])) (handed State.reset)
      (fun t => (lastReply t, t.settings)) =
      some (some (.done, .none),
        { pictureLimit := 16, smallLimit := 64, egressPayload := 8192, stallTimeout := 60000 }) := by
  decide +kernel

/-- R154: the free count and the power-on settings. -/
theorem test_queryPart_at_rest :
    after (.queryPart (dir [0, 0, 0, 0])) (handed State.reset)
      (fun t => match lastReply t with
        | some (.done, .part p) => some (p.freeCount, p.part, p.settings.egressPayload)
        | _ => none) =
      some (some (512, .running, 4096)) := by decide +kernel

/-- Section 2.9: the body of LOAD PROFILE for P9, with rendition 1's Qmin and the audio low given. -/
def nineBody (valid qmin low : Nat) : List Nat :=
    [9, valid, 2, 0] ++ [0, 2, 0xEE, 0] ++ [0, 1, 0x77, 0] ++ [0, 0, 6, 64]
    ++ [7, 128, 4, 56, 0, 0x4C, 0x4B, 0x40, 2, 28, 20, 40, 6, 4, 1, 0]
    ++ [5, 0, 2, 208, 0, 0x26, 0x25, 0xA0, 2, 28, qmin, 40, 6, 4, 1, 0]
    ++ List.replicate 32 255
    ++ [16, 0, 32, 0, 100, 0, low, 0, 3, 0, 0, 0]

def loadNine (qmin low : Nat) : Instr :=
  .loadProfile (dir (nineBody 1 qmin low))

theorem test_loadProfile_field_22 :
    after (loadNine 30 200) (handed State.reset) (fun t => (lastReply t, t.profiles[9].valid)) =
      some (some (.badField 22, .none), false) := by decide +kernel
theorem test_loadProfile_field_50_then_done :
    after (loadNine 20 200) (handed State.reset) (fun t => (lastReply t, t.profiles[9].valid)) =
      some (some (.badField 50, .none), false)
      ∧ after (loadNine 20 50) (handed State.reset)
          (fun t => (lastReply t, t.profiles[9].valid, t.profiles[9].renditions[3].height)) =
        some (some (.done, .none), true, 65535) := by decide +kernel

/-- R27: index 16 is refused, index 15 answered. -/
theorem test_readProfile_bound :
    after (.readProfile (dir [16, 0, 0, 0])) (handed State.reset) lastReply =
      some (some (.badField 0, .none))
      ∧ after (.readProfile (dir [15, 0, 0, 0])) (handed State.reset) lastReply =
        some (some (.done, .profile 15 Profile.zero)) := by decide +kernel

/-- Section 2.9: W1 of the term's table. -/
theorem test_loadWindow_W1 :
    after (.loadWindow (dir [1, 1, 5, 3, 0x12, 0x34, 0x56, 0, 0, 0, 0, 0])) (handed State.reset)
      (fun t => (lastReply t, t.windows[1])) =
      some (some (.done, .none),
        { active := true, value := 0x123456, mask := 0, profile := some 5, cls := 3 }) := by
  decide +kernel

/-- R33: W0 is shown active with a full mask. -/
theorem test_readWindow_W0 :
    after (.readWindow (dir [0, 0, 0, 0])) (handed State.reset) lastReply =
      some (some (.done, .window 0
        { active := true, value := 0, mask := 0xFFFFFF, profile := none, cls := 0 })) := by
  decide +kernel

/-- R56: action 3 fails field 8, which is checked before report. -/
theorem test_loadMarker_action :
    after (.loadMarker (dir ([0, 1, 4, 0, 31, 2, 3, 2, 0] ++ List.replicate 11 0)))
      (handed State.reset) (fun t => (lastReply t, t.markers[0])) =
      some (some (.badField 8, .none), Marker.zero) := by decide +kernel

/-- R57: index 4 is refused. -/
theorem test_readMarker_bound :
    after (.readMarker (dir [4, 0, 0, 0])) (handed State.reset) lastReply =
      some (some (.badField 0, .none)) := by decide +kernel

/-- R58: M0 and M2 cleared, M1 and M3 left set. -/
theorem test_clearMatch_named :
    after (.clearMatch (dir [5, 0, 0, 0]))
      (handed { State.reset with matchFlags := #v[true, true, true, true] })
      (fun t => t.matchFlags) =
      some #v[false, true, false, true] := by decide +kernel

/-- Section 2.9: the term's windows. -/
def termWindows : Vector Window 7 :=
  let w (active : Bool) (value mask : BitVec 24) (p : Option ProfileId) (c : Fin 4) : Window :=
    { active := active, value := value, mask := mask, profile := p, cls := c }
  #v[w false 0 0 (some 0) 0, w true 0x123456 0 (some 5) 3, w true 0x120000 0x00FFFF (some 3) 2,
     w true 0x340000 0x00FFFF (some 7) 1, Window.zero, Window.zero, Window.zero]

/-- Section 2.9: the windows chosen for its four course numbers. -/
theorem test_chosenWindow_term :
    (chosenWindow termWindows 0x123456).profile = some 5
      ∧ (chosenWindow termWindows 0x12ABCD).profile = some 3
      ∧ (chosenWindow termWindows 0x34000F).profile = some 7
      ∧ (chosenWindow termWindows 0x560001).profile = some 0 := by decide +kernel

/-- Section 2.9: OPEN 3 is refused, and OPEN 4 takes the override and W3's class. -/
theorem test_open_override :
    (let s := handed { State.reset with
      windows := termWindows, profiles := State.reset.profiles.set 0 recipe }
    after (.openChannel (dir [4, 255, 0x34, 0, 0x0F, 0, 0, 0])) s lastReply =
        some (some (.noProfile, .none))
      ∧ after (.openChannel (dir [4, 0, 0x34, 0, 0x0F, 0, 0, 0])) s (fun t =>
          (lastReply t, (t.channel 4).cls, (t.channel 4).contexts.map (fun x => x.fullness),
            t.pool.free.length)) =
        some (some (.done, .none), 1, [32000], 511)) := by decide +kernel

/-- R9: a RUNNING channel becomes DRAINING. -/
theorem test_close_running :
    after (.closeChannel (dir [3, 0, 0, 0])) (handed (withChannel 3 running))
      (fun t => ((t.channel 3).state, (t.channel 3).segments.length)) =
      some (.draining, 1) := by decide +kernel

/-- R15: with nothing on an engine the abort completes at once, its event behind the reply. -/
theorem test_abort_at_once :
    after (.abortChannel (dir [3, 0, 0, 0])) (handed (withChannel 3 running))
      (fun t => ((t.channel 3).state, t.egress.queuedBytes, lastEvent t, t.pool.free.getLast?)) =
      some (.closed, 64, some (.channelClosed 3 .aborted 0 60), some 500) := by decide +kernel
/-- R13 and R86: a RUNNING job is marked abandoned and its channel waits in ABORTING. -/
theorem test_abort_running_job :
    after (.abortChannel (dir [3, 0, 0, 0]))
      (handed (encoding { running with contexts := [{ context 0 with inFlight := true }] } false))
      (fun t => ((t.channel 3).state, t.jobs.map (fun j => j.state), t.egress.queue.length)) =
      some (.aborting, [.running onEngine true], 0) := by decide +kernel

/-- R17: channel 32 is refused; a CLOSED channel is answered. -/
theorem test_queryChannel_bound :
    after (.queryChannel (dir [32, 0, 0, 0])) (handed State.reset) lastReply =
      some (some (.badField 0, .none))
      ∧ after (.queryChannel (dir [31, 0, 0, 0])) (handed State.reset) (fun t =>
          match lastReply t with
          | some (.done, .channel c) =>
            c.state == .closed && c.depth == 0 && c.renditions.all Option.isNone
          | _ => false) = some true := by decide +kernel

/-- A fault log with both records. -/
def filledLog : FaultLog :=
  { soft := some { source := .decodeRead, channel := 1, rendition := none, slot := some 9 }
    hard := some { source := .egressRead, channel := 2, rendition := some 4, slot := none }
    correctable := 65535, uncorrectable := 255 }

/-- R102: the log as it stands. -/
theorem test_readFaultLog :
    after (.readFaultLog (dir [0, 0, 0, 0])) (handed { State.reset with faults := filledLog })
      (fun t => (lastReply t, t.faults)) =
      some (some (.done, .faults filledLog), filledLog) := by decide +kernel

/-- R103: emptied. -/
theorem test_clearFaultLog :
    after (.clearFaultLog (dir [0, 0, 0, 0])) (handed { State.reset with faults := filledLog })
      (fun t => (t.faults.soft, t.faults.hard, t.faults.correctable, t.faults.uncorrectable)) =
      some (none, none, 0, 0) := by decide +kernel

/-- R158 and R159: an idle part is held at once, with wait 0. -/
theorem test_hold_idle :
    after (.hold (dir [0, 0, 0, 0])) (handed State.reset)
      (fun t => (t.hold.part, lastEvent t)) =
      some (.held, some (.holdResult .accepted)) := by decide +kernel
/-- R158: a busy part with wait 10,000 stays pending; 10,001 is refused. -/
theorem test_hold_pending :
    after (.hold (dir [0x27, 0x10, 0, 0])) (handed (encoding running false))
      (fun t => (t.hold.part, t.hold.idleTimer)) = some (.holdPending, some 10000)
      ∧ after (.hold (dir [0x27, 0x11, 0, 0])) (handed (encoding running false)) lastReply =
        some (some (.badField 1, .none)) := by decide +kernel

/-- R161: RELEASE in HELD raises no event. -/
theorem test_release_held :
    after (.release (dir [0, 0, 0, 0]))
      (handed { State.reset with hold := { part := .held, idleTimer := none,
                                           egressEmpty := false } })
      (fun t => (t.hold.part, lastReply t)) = some (.running, some (.done, .none)) := by
  decide +kernel

/-- R151 and R162: RESTART discards the reports that waited, and its reply carries the mark. -/
theorem test_restart_marks_reply :
    after (.restart (dir [0, 0, 0, 0]))
      (handed ((withChannel 3 running).raise (.holdResult .accepted)))
      (fun t => (t.reports.queue, (t.channel 3).state)) =
      some ([{ eventsLost := true, body := .reply 0x0102 0x12 .done .none }], .closed) := by
  decide +kernel

/-- R149: code 13h is answered UNKNOWN whatever its body. -/
theorem test_unknown_directive :
    after (.unknownDirective 0x13 (dir [1, 2, 3])) (handed State.reset) lastReply =
      some (some (.unknown, .none)) := by decide +kernel

/-- R137 and R144: no credit, and a bad payload, end a directive without a reply. -/
theorem test_directive_not_taken :
    after (.queryPart (dir [0, 0, 0, 0])) (linked State.reset 0 0 [])
      (fun t => (t.ingest.counters.uncredited, t.reports.queue)) = some (1, [])
      ∧ after (.queryPart { dir [0, 0, 0, 0] with
            payload := { payloadOf (bytes [0, 0, 0, 0]) with check := 0 } })
          (linked State.reset 0 1 [])
          (fun t => (t.ingest.counters.payloadFailures, t.ingest.directiveUnspent,
            t.reports.queue)) = some (1, 0, []) := by decide +kernel

/-! ### The ingest port -/

/-- Section 10.6: channel 3 RUNNING with a partial picture in slot 40 that expects sequence 0. -/
def reassembling : State :=
  linked (withChannel 3 { running with
    assembly := some { slot := 40, bytes := 16384, expected := 0, timestamp := 200000, flags := 0 } })
    1 0 [41, 42, 43]

/-- Section 10.6 row 4: a FIRST frame of a CLOSED channel is stray and slot 41 is freed. -/
theorem test_pictureStart_stray :
    after (.pictureStartFrame .first (med 8 0 0 [1])) reassembling
      (fun t => (t.pool.reserved, t.pool.free.getLast?, t.ingest.counters.stray)) =
      some ([42, 43], some 41, 1) := by decide +kernel
/-- Section 10.6 row 8: a FIRST frame with a bad payload loses the unit it began. -/
theorem test_pictureStart_bad_payload :
    after (.pictureStartFrame .first
        { med 3 0 0 [1] with payload := { payloadOf (bytes [1]) with check := 0 } })
      { reassembling with channels := State.reset.channels.set 3 running }
      (fun t => (t.pool.reserved, t.ingest.counters.payloadFailures,
        (t.channel 3).counters.unitsLost)) = some ([42, 43], 1, 1) := by decide +kernel

/-- Section 10.6 row 5: sequence 1 where 0 is expected discards the partial. -/
theorem test_continuation_mismatch :
    after (.pictureContinuationFrame .middle (med 3 1 0 [1])) reassembling
      (fun t => ((t.channel 3).assembly, (t.channel 3).counters.unitsLost, t.pool.free.getLast?)) =
      some (none, 1, some 40) := by decide +kernel
/-- R143: the right sequence in position LAST completes the picture, which is accepted. -/
theorem test_continuation_last :
    after (.pictureContinuationFrame .last (med 3 0 0 [1])) reassembling
      (fun t => (t.decode.queue.map (fun d => (d.slot, d.time, d.delta)),
        (t.channel 3).lastPicture)) =
      some ([(40, 199000, 96000)], some 200000) := by decide +kernel

/-- Section 10.6 row 2: an audio unit takes an entry and leaves the partial alone. -/
theorem test_smallUnit_taken :
    after (.smallUnitFrame .audio .only (med 3 0 5000 [1, 2])) reassembling
      (fun t => (t.small.map (fun u => u.timestamp), t.ingest.smallOutstanding,
        (t.channel 3).lastAudio, (t.channel 3).assembly.isSome)) =
      some ([5000], 0, some 5000, true) := by decide +kernel
/-- R7: a unit below the base is late; its credit is spent. -/
theorem test_smallUnit_late :
    after (.smallUnitFrame .cue .only (med 3 0 999 [0, 0, 0, 1])) reassembling
      (fun t => (t.small.length, t.ingest.smallOutstanding, (t.channel 3).counters.unitsLate)) =
      some (0, 0, 1) := by decide +kernel

/-- R143: a unit of kind none is stray and needs no credit. -/
theorem test_unitKindNone_stray :
    after (.unitKindNoneFrame .only (med 3 0 0 [1])) reassembling
      (fun t => (t.ingest.counters.stray, t.ingest.smallOutstanding, t.pool.reserved.length)) =
      some (1, 1, 3) := by decide +kernel

/-- Section 10.6: a damaged header frees the partial's slot, then the RESERVED slots, and a reset
frame follows. -/
theorem test_headerCheckFailure :
    after (.headerCheckFailure (bytes [1, 2, 3])) reassembling
      (fun t => (t.pool.free.drop 509, t.pool.reserved, t.ingest.creditQueue,
        t.ingest.counters.headerFailures, (t.channel 3).counters.unitsLost,
        t.ingest.smallOutstanding)) =
      some ([40, 41, 42, 43], [], [.reset], 1, 1, 0) := by decide +kernel

/-- R147: the reset frame goes first. -/
theorem test_ingestLinkUp :
    after .ingestLinkUp State.reset (fun t => (t.ingest.link, t.ingest.creditQueue)) =
      some (.up, [.reset]) := by decide +kernel

/-- R147: the loss keeps the credits of directives already received, here one of two. -/
theorem test_ingestLinkDown :
    after (.ingestLinkDown 1) (linked State.reset 5 2 [0])
      (fun t => (t.ingest.link, t.ingest.inHand, t.ingest.directiveUnspent,
        t.ingest.smallOutstanding, t.pool.reserved)) =
      some (.down, 1, 0, 0, []) := by decide +kernel

/-- Section 10.6: the first grants after the link comes UP are of 8 PICTURE and 32 SMALL credits. -/
theorem test_first_grants :
    after .pictureCreditGrant (linked State.reset 0 0 [])
        (fun t => (t.ingest.creditQueue, t.pool.reserved)) =
      some ([.grant .picture 8], [0, 1, 2, 3, 4, 5, 6, 7])
      ∧ after .smallCreditGrant (linked State.reset 0 0 []) (fun t => t.ingest.creditQueue) =
        some [.grant .small 32] := by decide +kernel
/-- R140: 32 DIRECTIVE credits, in every part state. -/
theorem test_directive_grant :
    after .directiveCreditGrant
      { linked State.reset 0 0 [] with hold := { part := .held, idleTimer := none,
                                                 egressEmpty := false } }
      (fun t => (t.ingest.creditQueue, t.ingest.directiveUnspent)) =
      some ([.grant .directive 32], 32) := by decide +kernel

/-- R141: a CREDIT frame goes before a waiting REPORT frame. -/
theorem test_credit_before_report :
    (let s : State := { (linked State.reset 0 0 []).raise (.holdResult .accepted) with
      ingest := { (linked State.reset 0 0 []).ingest with creditQueue := [.grant .small 1] } }
    after .creditFrameSent s (fun t => (t.ingest.creditQueue.length, t.reports.queue.length)) =
        some (0, 1)
      ∧ after .reportFrameSent s (fun t => (t.ingest.creditQueue.length, t.reports.queue.length)) =
        some (1, 1)) := by decide +kernel
/-- R151: a report leaves when its frame has been sent. -/
theorem test_report_sent :
    after .reportFrameSent ((linked State.reset 0 0 []).raise (.holdResult .accepted))
      (fun t => (t.reports.queue, t.ingest.wire)) = some ([], .idle) := by decide +kernel

/-! ### Egress -/

/-- An EGRESS CREDIT frame with an increment. -/
def creditFrame (n : Nat) : RawFrame :=
  { header := sealHeader (bytes [7, 0, 0, n, 0, 0, 0, 0, 0, 0, 0, 0, 0, 4])
    payload := bytes [0, 0, 0, 0], check := crc32 (bytes [0, 0, 0, 0]) }

/-- The egress link UP with one coded unit of 5,000 bytes at the head, in a state of its read. -/
def sending (head : HeadState) (wire : EgressWire) (credits : Nat) : State :=
  { State.reset with egress := { EgressPort.powerOn with
      link := .up, credits := credits, head := head, wire := wire, queuedBytes := 5000
      queue := [.coded { channel := 3, rendition := 0, segment := 0, time := 0, key := true } 5000
        (.engine 0 (.decoded 0 1280 720) none)] } }

/-- R129: the count saturates at 255, and stalled is cleared. -/
theorem test_egressCredit_saturates :
    after (.egressCredit (creditFrame 200))
      { sending .unread .idle 100 with egress := { (sending .unread .idle 100).egress with
        stalled := true } }
      (fun t => (t.egress.credits, t.egress.stalled)) = some (255, false) := by decide +kernel
/-- R129: an increment of 0 changes nothing. -/
theorem test_egressCredit_zero :
    after (.egressCredit (creditFrame 0)) (sending .unread .idle 7)
      (fun t => t.egress.credits) = some 7 := by decide +kernel

/-- R132: the count of credits stays as the link comes UP. -/
theorem test_egressLinkUp :
    after .egressLinkUp State.reset (fun t => (t.egress.link, t.egress.credits)) =
      some (.up, 0) := by decide +kernel
/-- R132: the loss of the link voids the credits and rewinds a head that has begun, here in the
second loss before the head, read again, could begin again. -/
theorem test_egressLinkDown :
    after .egressLinkDown (sending (.read none true (some 4096) 1) .frame 9)
        (fun t => (t.egress.credits, t.egress.head, t.egress.queue.length, t.egress.queuedBytes)) =
      some (0, .rewound, 1, 5000)
      ∧ after .egressLinkDown (sending (.read none true none 0) .idle 1)
        (fun t => t.egress.head) = some .rewound
      ∧ after .egressLinkDown (sending (.read none false none 0) .idle 1)
        (fun t => t.egress.head) = some (.read none false none 0) := by decide +kernel

/-- R99 and R125: an uncorrectable read fills the hard record and marks the entry damaged. -/
theorem test_egressRead_damaged :
    after (.egressRead .uncorrectable) (sending .unread .idle 1)
      (fun t => (t.faults.uncorrectable, t.egress.head, lastEvent t)) =
      some (1, .read (some 0) false none 0, some (.memoryFault
        { source := .egressRead, channel := 3, rendition := some 0, slot := none })) := by
  decide +kernel
/-- R132: a rewound head is read again when sending resumes, not before the first credit. -/
theorem test_egressRead_rewound :
    after (.egressRead .clean) (sending .rewound .idle 0) (fun t => t.egress.head) = some .rewound
      ∧ after (.egressRead .clean) (sending .rewound .idle 1) (fun t => t.egress.head) =
        some (.read none true none 0) := by decide +kernel
/-- R130: with no credit the end of the read starts the stall timer. -/
theorem test_egressRead_starts_stall :
    after (.egressRead .clean) (sending .unread .idle 0) (fun t => t.egress.stallTimer) =
      some (some 5000) := by decide +kernel

/-- R126 and R127: the first frame takes a credit and fixes the payload size. -/
theorem test_egressFrameBegin :
    after .egressFrameBegin (sending (.read none false none 0) .idle 1)
      (fun t => (t.egress.credits, t.egress.wire, t.egress.head)) =
      some (0, .frame, .read none true (some 4096) 0) := by decide +kernel

/-- R126 and R128: 5,000 bytes at P = 4,096 go as two frames. -/
theorem test_egressFrameSent_two :
    after .egressFrameSent (sending (.read none true (some 4096) 0) .frame 1)
        (fun t => (t.egress.queue.length, t.egress.head)) =
      some (1, .read none true (some 4096) 1)
      ∧ after .egressFrameSent (sending (.read none true (some 4096) 1) .frame 1)
        (fun t => (t.egress.queue.length, t.egress.queuedBytes, t.egress.head)) =
      some (0, 0, .unread) := by decide +kernel

/-- R130: the expiry sets stalled and raises EGRESS STALL. -/
theorem test_stallTimerExpiry :
    after .stallTimerExpiry
      { sending (.read none false none 0) .idle 0 with
        egress := { (sending (.read none false none 0) .idle 0).egress with stallTimer := some 5000 } }
      (fun t => (t.egress.stalled, t.egress.stallTimer, lastEvent t)) =
      some (true, none, some (.egressStall 5000 .up)) := by decide +kernel

/-! ### Decoding and segments -/

/-- A decode queue entry. -/
def waiting (ch : ChannelId) (slot : SlotId) : DecodeEntry :=
  { channel := ch, slot := slot, time := 0, delta := 1600, flags := 0 }

/-- Section 7.8: A of channel 4 is DECODING, and B, C and D wait. -/
def decodingA : State :=
  { State.reset with
    channels := State.reset.channels.set 4 { Channel.cleared with decodeInFlight := true }
    decode := { queue := [waiting 4 211, waiting 9 212, waiting 17 213]
                engines := #v[.decoding (waiting 4 210) false, .idle], held := [] } }

/-- Section 7.8 event 1: B is passed over and C starts on DE1. -/
theorem test_decodeDispatch_passes_over :
    after .decodeDispatch decodingA
      (fun t => (t.decode.engines[1], t.decode.queue.map (fun d => d.slot),
        (t.channel 9).decodeInFlight)) =
      some (.decoding (waiting 9 212) false, [211, 213], true) := by decide +kernel

/-- Channel 3 past its first good picture, with a picture of the bytes given DECODING on DE0. -/
def decodingOn (bs : List Nat) : State :=
  { withChannel 3 { running with decodeInFlight := true } with
    pool := { SlotPool.powerUp with
      slots := SlotPool.powerUp.slots.set 210
        { state := .decoding, compressed := bytes bs, picture := .powerUp 210 } }
    decode := { queue := [], engines := #v[.decoding (waiting 3 210) false, .idle], held := [] } }

/-- Section 7.8 event 3: a header height of 1,200 fails, and the picture is concealed. -/
theorem test_decodeCompletion_failed :
    after (.decodeCompletion 0 .clean true)
      (decodingOn [7, 128, 4, 176, 0, 0, 0, 1, 0, 0, 0, 0, 0, 0, 0, 0, 9])
      (fun t => (t.channel 3).counters.picturesConcealed == 1
        && t.jobs.map (fun j => (j.skip, j.source.isSome)) == [(true, false)]
        && t.pool.free.getLast? == some 210) = some true := by decide +kernel
/-- R108 and R45: a good picture becomes a job and its slot a SOURCE of one. -/
theorem test_decodeCompletion_good :
    after (.decodeCompletion 0 .clean true)
      (decodingOn [7, 128, 4, 56, 0, 0, 0, 1, 0, 0, 0, 0, 0, 0, 0, 0, 9])
      (fun t => (t.jobs.map (fun j => (j.skip, j.source)), t.pool.slots[210].state,
        t.pool.slots[210].picture, (t.channel 3).decodeInFlight)) =
      some ([(false, some { slot := 210, width := 1920, height := 1080 })], .source 1,
        .decoded 0 1920 1080, false) := by
  decide +kernel

/-- A good picture of channel 3 in slot 7. -/
def picture (t : Nat) (good : Bool) : DecodedPicture :=
  { channel := 3, time := t, delta := 1600, flags := 0
    source := if good then some { slot := 7, width := 1920, height := 1080 } else none }

/-- Section 3.6: the marker cut of the cue at 50,000 is pending. -/
def markedCut : Channel :=
  { running with cutPending := some { notBefore := 50000, chapter := some 0 } }

/-- Section 3.6, picture 60: the marker cut is due at 96,000 and its chapter is recorded. -/
theorem test_marker_cut :
    (markedCut.decideCut recipe true 96000).1.segments.map
        (fun e => (e.number, e.state, e.start)) =
        [(0, .closing 96000, 0), (1, .opened, 96000)]
      ∧ (markedCut.decideCut recipe true 96000).1.segments.map (fun e => e.chapter) =
        [none, some { marker := 0, notBefore := 50000 }]
      ∧ (markedCut.decideCut recipe true 96000).1.nextCut = 288000
      ∧ (markedCut.decideCut recipe true 96000).1.cutPending = none := by decide +kernel
/-- Section 3.6, pictures 32 and 300: the marker cut waits for M, and a concealed picture defers a
timed cut. -/
theorem test_cut_deferred :
    markedCut.decideCut recipe true 51200 = (markedCut, false)
      ∧ running.decideCut recipe false 192000 = (running, false) := by decide +kernel

/-- R38: a held picture is taken once its V entries are free. -/
theorem test_takeHeldPicture :
    after .takeHeldPicture
      { withChannel 3 running with
        decode := { queue := [], engines := #v[.idle, .holding (picture 97600 true)], held := [1] } }
      (fun t => (t.jobs.length, t.decode.engines[1], t.decode.held, (t.channel 3).pictureNumber)) =
      some (1, .idle, [], 61) := by decide +kernel

/-! ### Jobs and engines -/

/-- Section 4.7: the fullness given, with one QUEUED engine job, key-required or not. -/
def dispatching (fullness : Nat) (key : Bool) : State :=
  { withChannel 3 { running with contexts := [context fullness] } with
    jobs := [{ job .queued with keyRequired := key }] }

/-- Section 4.7: QI 40 for the key picture at 32,000, and QI 63 at 61,995. -/
theorem test_engineDispatch_qi :
    after .engineDispatch (dispatching 32000 true)
        (fun t => (t.channel 3).contexts.map (fun x => x.lastQI)) = some [some 40]
      ∧ after .engineDispatch (dispatching 61995 false)
        (fun t => (t.channel 3).contexts.map (fun x => x.lastQI)) = some [some 63] := by
  decide +kernel
/-- R79: the recon slot, the reservation and the engine. -/
theorem test_engineDispatch_start :
    after .engineDispatch (dispatching 32000 false)
      (fun t => (t.pool.free.head?, t.egress.reservedBytes, t.encode[0],
        t.jobs.map (fun j => j.isRunning))) =
      some (some 1, 16384, .busy none none, [true]) := by decide +kernel

/-- Section 4.7: the skip leaves 61,995 from a full buffer and clears skip pending. -/
theorem test_skipCompletion_drains :
    after (.skipCompletion 3 0)
      { withChannel 3 { running with contexts := [{ context 64000 with skipPending := true }] } with
        jobs := [{ job .queued with skip := true }] }
      (fun t => ((t.channel 3).contexts.map (fun x => (x.fullness, x.skipPending)),
        (t.channel 3).counters.skipPictures, t.egress.queuedBytes, t.jobs.length)) =
      some ([(61995, false)], 1, 16, 0) := by decide +kernel
/-- Section 4.7: a skip whose budget is 64 bits overflows again. -/
theorem test_skipCompletion_overflows :
    after (.skipCompletion 3 0)
      { withChannel 3 { running with contexts := [{ context 64000 with skipPending := true }] } with
        jobs := [{ job .queued with skip := true, delta := 48 }] }
      (fun t => ((t.channel 3).contexts.map (fun x => (x.fullness, x.skipPending)),
        (t.channel 3).counters.overflows)) =
      some ([(64000, true)], 1) := by decide +kernel

/-- Section 4.7: 16,384 capped bytes fill the buffer; the recon slot becomes the reference, and the
old reference and then the source are freed. -/
theorem test_encodeCompletion_overflow :
    after (.encodeCompletion 0 (report 16384 true)) (encoding running false)
      (fun t => ((t.channel 3).contexts.map (fun x => (x.fullness, x.skipPending, x.reference)),
        (t.channel 3).counters.overflows, t.egress.queuedBytes)) =
      some ([(64000, true, 8)], 1, 16384)
      ∧ after (.encodeCompletion 0 (report 16384 true)) (encoding running false)
      (fun t => ((t.channel 3).counters.cappedPictures, t.pool.free.drop 509,
        t.egress.reservedBytes)) = some (1, [500, 7], 0) := by decide +kernel
/-- R81: the reconstruction is in the recon slot's picture area, and the unit is of the source and
the reference read. -/
theorem test_encodeCompletion_pictures :
    after (.encodeCompletion 0 (report 16384 true)) (encoding running false)
      (fun t => (t.pool.slots[8].picture, t.egress.queue.map (fun e => match e with
        | .coded _ _ content => some content
        | _ => none))) =
      some (.reconstructed 0 1280 720,
        [some (.engine 0 (.powerUp 7) (some (.powerUp 500)))]) := by decide +kernel
/-- R85: an abandoned completion frees the recon slot and then the source, and sends nothing. -/
theorem test_encodeCompletion_abandoned :
    after (.encodeCompletion 0 (report 300 false))
      (encoding { running with state := .aborting } true)
      (fun t => ((t.channel 3).contexts.map (fun x => (x.fullness, x.reference)),
        t.pool.free.drop 509, t.egress.queue.length, t.jobs.length)) =
      some ([(32000, 500)], [8, 7], 0, 0) := by decide +kernel

/-- R82 and R97: a correctable read of the reference is logged with the reference slot. -/
theorem test_encodeEngineRead :
    after (.encodeEngineRead 0 .reference .correctable) (encoding running false)
      (fun t => (t.faults.correctable, t.faults.soft, t.encode[0])) =
      some (1, some { source := .encodeReference, channel := 3, rendition := some 0,
                      slot := some 500 }, .busy none (some .correctable)) := by decide +kernel

/-! ### Segment records and ends -/

/-- R49: a ready record leaves the table; one with a job outstanding waits. -/
theorem test_segmentRecord :
    after (.segmentRecord 3)
        (withChannel 3 { running with segments := [entry 0 (.closing 96000) 0 0,
                                                   entry 1 .opened 96000 0] })
        (fun t => ((t.channel 3).segments.length, (t.channel 3).counters.segmentsEmitted,
          t.egress.queuedBytes)) = some (1, 1, 64)
      ∧ after (.segmentRecord 3)
        (withChannel 3 { running with segments := [entry 0 (.closing 96000) 0 1] })
        (fun t => (t.channel 3).segments.length) = some 1 := by decide +kernel

/-- R11: the duration runs to the end of the last picture: 96,000 + 1,600 − 0. -/
theorem test_finalSegmentClose :
    after (.finalSegmentClose 3) (withChannel 3 { running with state := .draining })
      (fun t => (t.channel 3).segments.map (fun e => e.state)) =
      some [.closing 97600] := by decide +kernel

/-- R12: END, the reference slot freed, CLOSED, the event. -/
theorem test_drainCompletion :
    after (.drainCompletion 3) (withChannel 3 { running with state := .draining, segments := [] })
      (fun t => ((t.channel 3).state, t.pool.free.getLast?, lastEvent t)) =
      some (.closed, some 500, some (.channelClosed 3 .completed 0 60)) := by decide +kernel

/-- R15: the same for an aborted channel; one with a rendition in flight waits. -/
theorem test_abortCompletion :
    after (.abortCompletion 3) (withChannel 3 { running with state := .aborting })
        (fun t => ((t.channel 3).state, lastEvent t)) =
      some (.closed, some (.channelClosed 3 .aborted 0 60))
      ∧ after (.abortCompletion 3)
        (withChannel 3
          { running with state := .aborting, contexts := [{ context 0 with inFlight := true }] })
        (fun t => (t.channel 3).state) = some .aborting := by decide +kernel

/-! ### The audio path, hold and reset -/

/-- A small unit of channel 3 at the head of the buffer. -/
def buffered (k : SmallKind) (xs : List Nat) : State :=
  { withChannel 3 running with
    small := [{ channel := 3, kind := k, timestamp := 51000, flags := 0, payload := bytes xs }] }

/-- Section 3.6: M0, on the cue unit's code 5. -/
def cutMarker : Marker :=
  { enabled := true, kinds := 4, channelValue := 0, channelMask := 31, field := .code
    compareValue := 5, compareMask := 0, action := .cutAt, report := true, chapter := true }

/-- Section 3.6: the cue at 50,000 makes a pending with the chapter of M0. -/
theorem test_cue_requests_cut :
    after .processCueUnit
      { buffered .cue [0, 0, 0, 5] with markers := State.reset.markers.set 0 cutMarker }
      (fun t => ((t.channel 3).cutPending, t.matchFlags[0], lastEvent t, t.small.length)) =
      some (some { notBefore := 50000, chapter := some 0 }, true,
        some (.mark 0 3 .cue 50000), 0) := by decide +kernel

/-- Section 8.4: the first unit, padded with zeros to 16 samples. -/
def loudUnit : List Nat :=
  [0x4E, 0x20, 0xB1, 0xE0, 0x75, 0x30] ++ List.replicate 26 0

/-- Section 8.4: 20,000 gives 30,000, −20,000 gives −30,000, 30,000 is clamped; the gain falls to
5,760. -/
theorem test_audio_levelled :
    after .processAudioUnit (buffered .audio loudUnit)
      (fun t => (match t.egress.queue with
          | [.audio tag samples] => (tag.segment, (samples.take 3).map BitVec.toInt)
          | _ => (9, []),
        (t.channel 3).leveller.gain, (t.channel 3).counters.clippedSamples,
        (t.channel 3).segments.map (fun e => e.bytes[4]))) =
      some ((0, [30000, -30000, 32767]), 5760, 1, [32]) := by decide +kernel
/-- Section 8.4, units 3 and 4: P 3,516 and 3,656, the third quiet unit raising the gain to 5,940. -/
theorem test_leveller_quiet :
    peak 5760 [2500#16] = 3516 ∧ peak 5760 [2600#16] = 3656
      ∧ ({ gain := 5760, quietRun := 2 } : Leveller).adapt recipe 3656 =
        { gain := 5940, quietRun := 0 } := by decide +kernel

/-- R159: the expiry rejects the hold with TIMEOUT. -/
theorem test_idleTimerExpiry :
    after .idleTimerExpiry
      { encoding running false with
        hold := { part := .holdPending, idleTimer := some 10, egressEmpty := false } }
      (fun t => (t.hold.part, t.hold.idleTimer, lastEvent t)) =
      some (.running, none, some (.holdResult (.rejected .timeout))) := by decide +kernel

/-- R89: a reset leaves a slot's areas, but for the write that it cut short. -/
theorem test_powerOnReset_areas :
    after .powerOnReset (encoding running false)
      (fun t => [t.pool.slots[7], t.pool.slots[8]].map (fun x => (x.state, x.picture))) =
      some [(.free, .powerUp 7), (.free, .unfinished 0 8)] := by decide +kernel
/-- R163: links DOWN, no credits, power-on settings, every slot free. -/
theorem test_powerOnReset :
    after .powerOnReset (sending .unread .frame 9)
      (fun t => (t.egress.link, t.egress.credits, t.settings, t.pool.free.length,
        t.egress.queue.length)) =
      some (.down, 0, LinkSettings.powerOn, 512, 0) := by decide +kernel

/-- An empty queue idles; a waiting command is taken out. -/
theorem test_step :
    (match step State.reset with
      | .next t => t.pending.length == 0
      | _ => false) = true
      ∧ (match step { State.reset with pending := [.egressLinkUp] } with
        | .next t => t.pending.length == 0 && t.egress.link == .up
        | _ => false) = true := by decide +kernel

/-! ### Witnesses: states and operands that meet the hypotheses of each statement

A witness lists the hypotheses of its statement, clause by clause, at the ends of their ranges. -/

/-- Whether a command completes. -/
def completes (c : Instr) (s : State) : Bool :=
  (after c s (fun _ => true)).isSome

theorem next_of_completes (c : Instr) (s : State) (h : completes c s = true) :
    ∃ t, exec c s = .next t := by
  unfold completes after at h
  split at h
  · exact ⟨_, ‹_›⟩
  · cases h
  · cases h

/-- A part whose egress store has n queued bytes. -/
def stored (n : Nat) (s : State) : State :=
  { s with egress := { s.egress with queuedBytes := n } }

/-- The room of a part's egress store. -/
def roomOf (s : State) : Nat := 268435456 - (s.egress.reservedBytes + s.egress.queuedBytes)

/-- A part with n jobs waiting. -/
def withJobs (n : Nat) (s : State) : State :=
  { s with jobs := List.replicate n (job .queued) }

/-- Any directive reaches the directive unit of a part with one in hand. -/
theorem handed_hands (s : State) (f : DirectiveFrame) : (handed s).Hands f :=
  Or.inl (by simp [handed])

/-- A part with one RUNNING job whose completion is next in the queue. -/
def busy : State :=
  { encoding running false with pending := [.encodeCompletion 0 (report 16384 true)] }

theorem busy_steps : ∃ t, step busy = .next t :=
  next_of_completes (.encodeCompletion 0 (report 16384 true)) { busy with pending := [] }
    (by decide +kernel)

theorem witness_StepTakesTheFront : State.reset.pending = [] := rfl

theorem witness_ForwardFramesReadBack :
    (Instr.smallUnitFrame .audio .only (med 3 9 5000 [1])).wellFormed = true
      ∧ (Decode.toFrame (.smallUnitFrame .audio .only (med 3 9 5000 [1]))).isSome = true
      ∧ (Instr.smallUnitFrame .audio .only { med 3 9 5000 [1] with
          payload := { length := 8192, bytes := [], check := 0 } }).wellFormed = true := by
  decide +kernel

theorem witness_ReportPlacesKept : busy.ReportPlaces ∧ ∃ t, step busy = .next t :=
  ⟨by unfold State.ReportPlaces; decide +kernel, busy_steps⟩

theorem witness_EgressTotalsKept : busy.EgressTotals ∧ ∃ t, step busy = .next t :=
  ⟨by unfold State.EgressTotals; decide +kernel, busy_steps⟩

/-- Who holds a slot of `busy`: a source of one job, its recon slot and its reference. -/
theorem busy_slot (i : SlotId) :
    busy.pool.slots[i].state =
        (if i = 500 then .reference else if i = 8 then .recon
          else if i = 7 then .source 1 else .free)
      ∧ (i ∈ busy.pool.free ↔ i ≠ 7 ∧ i ≠ 8 ∧ i ≠ 500)
      ∧ busy.readers i = (if i = 7 then 1 else 0) := by
  refine ⟨?_, ?_, ?_⟩
  · change ((((SlotPool.powerUp.mark 7 (.source 1)).mark 8 .recon).mark 500 .reference).slots[i]).state
      = _
    simp only [SlotPool.mark_state]
    simp [SlotPool.powerUp]
  · simp [busy, encoding, and_assoc]
  · by_cases h : i = 7
    · subst h; rfl
    · have : ¬ (7 : SlotId) = i := fun e => h e.symm
      simp [State.readers, busy, encoding, job, h, this]

theorem busy_free_nodup : busy.pool.free.Nodup := by
  simp only [busy, encoding]
  exact List.Nodup.filter _ (List.nodup_finRange 512)

theorem busy_holders : busy.holders = [(500, .reference), (8, .recon)] := by decide +kernel

/-- Section 6.2's holders, in a part with a running engine job. -/
theorem busy_slotsOk : busy.SlotsOk := by
  refine ⟨busy_free_nodup, fun i => ?_, ?_, ?_, fun i => ?_, fun i n => ?_, ?_,
    ?_⟩
  · rw [(busy_slot i).1, (busy_slot i).2.1]
    split <;> (try split) <;> (try split) <;> simp_all
  · rw [busy_holders]; decide +kernel
  · rw [busy_holders]; decide +kernel
  · rw [busy_holders, (busy_slot i).1]
    split <;> (try split) <;> (try split) <;> simp_all
  · rw [(busy_slot i).1, (busy_slot i).2.2]
    split <;> (try split) <;> (try split) <;> simp_all
    omega
  · decide +kernel
  · decide +kernel

theorem busy_tablesInRange : busy.TablesInRange := by
  unfold State.TablesInRange LinkSettings.InRange Profile.InRange RenditionSpec.InRange
  decide +kernel

theorem witness_EngineReserveKept :
    busy.EngineReserve ∧ busy.TablesInRange ∧ busy.SlotsOk ∧ ∃ t, step busy = .next t :=
  ⟨by unfold State.EngineReserve; decide +kernel, busy_tablesInRange, busy_slotsOk, busy_steps⟩

/-- The reserve is at its end: 8 free slots and no job. -/
theorem witness_NoStepStops :
    ({ State.reset with
        pool := { SlotPool.powerUp with free := (List.finRange 512).drop 504 } }).EngineReserve := by
  unfold State.EngineReserve
  decide +kernel

theorem witness_QueueBoundsKept : busy.QueueBounds ∧ ∃ t, step busy = .next t :=
  ⟨by unfold State.QueueBounds Channel.TableOk; decide +kernel, busy_steps⟩

/-- A part in HOLD_PENDING whose last engine completes. -/
theorem witness_HoldStateKept :
    ({ busy with hold := { part := .holdPending, idleTimer := some 1,
                           egressEmpty := false } }).HoldOk
      ∧ ∃ t, step { busy with hold := { part := .holdPending, idleTimer := some 1,
                                        egressEmpty := false } } = .next t :=
  ⟨by unfold State.HoldOk; decide +kernel,
    next_of_completes (.encodeCompletion 0 (report 16384 true))
      { busy with
        hold := { part := .holdPending, idleTimer := some 1, egressEmpty := false }, pending := [] }
      (by decide +kernel)⟩

/-- The channels of `busy`: channel 3 alone is open. -/
theorem busy_channel (ch : ChannelId) :
    busy.channel ch = if ch = 3 then running else Channel.cleared := by
  revert ch; decide +kernel

theorem busy_fullnessOk : busy.FullnessOk := by
  intro ch
  rw [busy_channel]
  by_cases h : ch = 3
  · subst h
    refine ⟨by decide +kernel, fun r x hx => ?_⟩
    match r with
    | 0 => cases hx; decide +kernel
    | 1 | 2 | 3 => cases hx
  · simp [h, Channel.cleared]

theorem witness_TablesKeepTheirRanges :
    busy.TablesInRange ∧ busy.FullnessOk ∧ ∃ t, step busy = .next t :=
  ⟨busy_tablesInRange, busy_fullnessOk, busy_steps⟩

theorem witness_ReferencedProfileIsLocked :
    (∃ t, exec .decodeDispatch (withChannel 3 running) = .next t)
      ∧ Instr.decodeDispatch ≠ .powerOnReset
      ∧ ∃ ch, ((withChannel 3 running).channel ch).state ≠ .closed
        ∧ ((withChannel 3 running).channel ch).profile = 3 :=
  ⟨next_of_completes _ _ (by decide +kernel), by decide, 3, by decide +kernel⟩

/-- 31 and 32 of the 32 places taken. -/
theorem witness_ReportsEnterTheQueue :
    (linked State.reset 0 31 []).reports.queue.length
        + ((linked State.reset 0 31 []).ingest.directiveUnspent
          + (linked State.reset 0 31 []).ingest.inHand) < 32
      ∧ 32 ≤ (linked State.reset 0 32 []).reports.queue.length
        + ((linked State.reset 0 32 []).ingest.directiveUnspent
          + (linked State.reset 0 32 []).ingest.inHand) := by decide +kernel

theorem witness_FreeListIsFirstInFirstOut :
    ({ SlotPool.powerUp with free := [] }).free = []
      ∧ SlotPool.powerUp.free = 0 :: (List.finRange 512).drop 1 := by decide +kernel

/-- Windows of which only W6 is active. -/
def onlyLast : Vector Window 7 := (Vector.replicate 7 Window.zero).set 6 termWindows[3]

/-- W1 and, with W1 to W5 not active, W6; and no window. -/
theorem witness_ChosenWindow :
    (termWindows[1].active = true ∧ AgreeWhereZero 0x123456 termWindows[1].value termWindows[1].mask
        ∧ ∀ j : WindowId, j ≠ 0 → j < 1 → ¬ (termWindows[j].active = true
          ∧ AgreeWhereZero 0x123456 termWindows[j].value termWindows[j].mask))
      ∧ (onlyLast[6].active = true ∧ AgreeWhereZero 0x34FFFF onlyLast[6].value onlyLast[6].mask
        ∧ ∀ j : WindowId, j ≠ 0 → j < 6 → ¬ (onlyLast[j].active = true
          ∧ AgreeWhereZero 0x34FFFF onlyLast[j].value onlyLast[j].mask))
      ∧ ∀ i : WindowId, i ≠ 0 → ¬ (termWindows[i].active = true
        ∧ AgreeWhereZero 0x560001 termWindows[i].value termWindows[i].mask) := by
  simp only [← agreeOutside_iff]
  decide +kernel

/-- The lowest and the highest field number. -/
theorem witness_ProfileFieldChecks :
    ({ recipe with count := 0 }).firstBad = some 2 ∧ ({ recipe with quietRun := 0 }).firstBad = some 51
      ∧ recipe.firstBad = none := by decide +kernel

/-- A full and an empty buffer, Δt at both ends, the QI below, above and within its limits, and the
smallest and the largest picture. -/
theorem witness_RateArithmetic :
    smallest.InRange ∧ 64000 ≤ smallest.bitrate * smallest.window
      ∧ 1 ≤ 1 ∧ 1 ≤ 96000 ∧ 96000 ≤ 96000
      ∧ ((smallest.qnom : Int) + smallest.offset 0 < smallest.qmin)
      ∧ ((smallest.qmax : Int) < (smallest.qnom : Int) + smallest.offset 64000)
      ∧ ((smallest.qmin : Int) ≤ (smallest.qnom : Int) + smallest.offset 32000)
      ∧ ((smallest.qnom : Int) + smallest.offset 32000 ≤ smallest.qmax)
      ∧ 160 ≤ 160 ∧ 1920 ≤ 1920 ∧ 96 ≤ 96 ∧ 1080 ≤ 1080 := by
  unfold RenditionSpec.InRange
  decide +kernel

/-- Section 4.7's overflow, an underflow, and both ends of the middle range. -/
theorem witness_FullnessUpdate :
    ({ running with contexts := [context 32000] }).contexts[0]? = some (context 32000)
      ∧ ((smallest.bitrate * smallest.window : Nat) : Int)
          < (32000 : Int) + 8 * 16384 - ((smallest.bitrate * 1600 / 48000 : Nat) : Int)
      ∧ (0 : Int) + 8 * 16 - ((smallest.bitrate * 1600 / 48000 : Nat) : Int) < 0
      ∧ (0 : Int) ≤ 2005 + 8 * 16 - ((smallest.bitrate * 1600 / 48000 : Nat) : Int)
      ∧ (2005 : Int) + 8 * 16 - ((smallest.bitrate * 1600 / 48000 : Nat) : Int)
          ≤ ((smallest.bitrate * smallest.window : Nat) : Int) := by decide +kernel

/-- Samples beyond both limits and at them, and section 8.4's four cases of the adaptation. -/
theorem witness_AudioLeveller :
    (∃ y : Int, 4096 * y ≤ (0x8000#16).toInt * 6144 + 2048
        ∧ (0x8000#16).toInt * 6144 + 2048 < 4096 * (y + 1) ∧ y < -32768)
      ∧ (∃ y : Int, 4096 * y ≤ (0x7530#16).toInt * 6144 + 2048
        ∧ (0x7530#16).toInt * 6144 + 2048 < 4096 * (y + 1) ∧ 32767 < y)
      ∧ (∃ y : Int, 4096 * y ≤ (0x8000#16).toInt * 4096 + 2048
        ∧ (0x8000#16).toInt * 4096 + 2048 < 4096 * (y + 1) ∧ -32768 ≤ y ∧ y ≤ 32767)
      ∧ recipe.low < recipe.high ∧ recipe.high < 29001
      ∧ (3999 < recipe.low ∧ 1 + 1 < recipe.quietRun) ∧ recipe.quietRun ≤ 2 + 1
      ∧ (recipe.low ≤ 4000 ∧ 29000 ≤ recipe.high) :=
  ⟨⟨-49152, by decide⟩, ⟨45000, by decide⟩, ⟨-32768, by decide⟩, by decide +kernel⟩

/-! #### Directives -/

/-- A directive from the queue of those received before a loss, and one delivered with a credit. -/
theorem witness_EveryDirectiveGetsOneReply :
    directiveOf (.release (dir [0, 0, 0, 0])) = some (0x11, dir [0, 0, 0, 0])
      ∧ (Instr.release (dir [0, 0, 0, 0])).wellFormed = true
      ∧ (handed State.reset).Hands (dir [0, 0, 0, 0])
      ∧ (linked State.reset 0 1 []).Hands (dir [0, 0, 0, 0]) :=
  ⟨rfl, by decide +kernel, handed_hands _ _,
    Or.inr (by unfold State.Delivers PayloadGood; decide +kernel)⟩

theorem witness_DirectiveFrameDropped :
    (linked State.reset 0 0 []).ingest.inHand = 0
      ∧ (linked State.reset 0 0 []).Delivers (dir [0, 0, 0, 0]).payload
      ∧ (linked State.reset 0 0 []).ingest.directiveUnspent = 0
      ∧ (linked State.reset 0 1 []).ingest.inHand = 0
      ∧ (linked State.reset 0 1 []).Delivers { payloadOf (bytes [1, 2]) with check := 0 }
      ∧ 0 < (linked State.reset 0 1 []).ingest.directiveUnspent
      ∧ ¬ PayloadGood { payloadOf (bytes [1, 2]) with check := 0 } := by
  unfold State.Delivers PayloadGood
  decide +kernel

/-- A body too short by one byte, and the codes next to those that name a directive. -/
theorem witness_MalformedDirectiveIsAnswered :
    directiveOf (.setLink (dir [1, 1, 4, 0, 0, 0, 0])) = some (0x01, dir [1, 1, 4, 0, 0, 0, 0])
      ∧ (dir [1, 1, 4, 0, 0, 0, 0]).payload.bytes.length ≠ bodyLengthOf 0x01
      ∧ (0x00 : Byte).toNat = 0 ∧ 19 ≤ (0x13 : Byte).toNat ∧ 19 ≤ (0xFF : Byte).toNat
      ∧ (handed State.reset).Hands (dir [1, 1, 4, 0, 0, 0, 0]) :=
  ⟨rfl, by decide +kernel, by decide, by decide, by decide, handed_hands _ _⟩

/-- The four settings of a SET LINK body. -/
def linkFields (xs : List Nat) : Nat × Nat × Nat × Nat :=
  ((byteAt (bytes xs) 0).toNat, (byteAt (bytes xs) 1).toNat, beNat (field (bytes xs) 2 2),
    beNat (field (bytes xs) 4 2))

/-- Each field just out of its range, on both sides where it has two, then all at their ends. -/
theorem witness_SetLinkReplacesAllFour :
    (handed State.reset).Hands (dir [0, 1, 4, 0, 0, 0, 0, 0])
      ∧ [linkFields [0, 1, 4, 0, 0, 0, 0, 0], linkFields [17, 1, 4, 0, 0, 0, 0, 0],
      linkFields [1, 0, 4, 0, 0, 0, 0, 0], linkFields [16, 65, 4, 0, 0, 0, 0, 0],
      linkFields [1, 1, 3, 255, 0, 0, 0, 0], linkFields [1, 1, 4, 1, 0, 0, 0, 0],
      linkFields [1, 1, 0x22, 0, 0, 0, 0, 0], linkFields [1, 1, 4, 0, 0xEA, 0x61, 0, 0],
      linkFields [1, 1, 4, 0, 0, 0, 0, 0], linkFields [16, 64, 0x20, 0, 0xEA, 0x60, 0, 0]] =
      [(0, 1, 1024, 0), (17, 1, 1024, 0), (1, 0, 1024, 0), (16, 65, 1024, 0), (1, 1, 1023, 0),
        (1, 1, 1025, 0), (1, 1, 8704, 0), (1, 1, 1024, 60001), (1, 1, 1024, 0),
        (16, 64, 8192, 60000)]
      ∧ (dir [0, 1, 4, 0, 0, 0, 0, 0]).payload.bytes.length = 8 :=
  ⟨handed_hands _ _, by decide +kernel⟩

/-- Section 2.9's record for P9, with rendition 1's Qmin and the audio low given. -/
def nineRecord (qmin low : Nat) : Profile :=
  let rendition (width height bitrate qmin : Nat) : RenditionSpec :=
    { width := width, height := height, bitrate := bitrate, window := 2, qnom := 28, qmin := qmin,
      qmax := 40, gain := 6, keyOffset := 4, cap := 256 }
  let unused : RenditionSpec :=
    { width := 65535, height := 65535, bitrate := 4294967295, window := 255, qnom := 255,
      qmin := 255, qmax := 255, gain := 255, keyOffset := 255, cap := 65535 }
  { valid := true, count := 2, audioEnabled := 0, segmentTicks := 192000, minimumTicks := 96000,
    intervalHint := 1600
    renditions := #v[rendition 1920 1080 5000000 20, rendition 1280 720 2500000 qmin, unused, unused]
    initialGain := 4096, maximumGain := 8192, high := 25600, low := low * 256, quietRun := 3 }

/-- Index 16; P9 in use; valid 2; valid 0; a bad field; and a good record. -/
theorem witness_LoadProfileStoresOrRefuses :
    (handed (withChannel 3 running)).Hands (dir (nineBody 1 20 50))
      ∧ (byteAt (bytes (16 :: (nineBody 1 20 50).tail)) 0).toNat = 16
      ∧ (bytes (nineBody 1 20 50)).length = 92 ∧ (byteAt (bytes (nineBody 1 20 50)) 0).toNat = 9
      ∧ (∃ ch, ((withChannel 3 { running with profile := 9 }).channel ch).state ≠ .closed
        ∧ ((withChannel 3 { running with profile := 9 }).channel ch).profile = 9)
      ∧ (¬ ∃ ch, ((withChannel 3 running).channel ch).state ≠ .closed
        ∧ ((withChannel 3 running).channel ch).profile = 9)
      ∧ (byteAt (bytes (nineBody 2 20 50)) 1).toNat = 2
      ∧ (byteAt (bytes (nineBody 0 30 50)) 1).toNat = 0
      ∧ (byteAt (bytes (nineBody 1 30 50)) 1).toNat = 1
      ∧ readProfileRecord (bytes (nineBody 1 30 50)) = nineRecord 30 50
      ∧ readProfileRecord (bytes (nineBody 1 20 50)) = nineRecord 20 50
      ∧ (nineRecord 30 50).firstBad = some 22 ∧ (nineRecord 20 50).firstBad = none :=
  ⟨handed_hands _ _, by decide +kernel⟩

/-- The last object of each table and the first number past it. -/
theorem witness_QueriesAnswerAndChangeNothing :
    (handed State.reset).Hands (dir [31, 0, 0, 0])
      ∧ [15, 16, 6, 7, 3, 4, 31, 32].map (fun n => (byteAt (bytes [n, 0, 0, 0]) 0).toNat) =
        [(15 : ProfileId).val, 16, (6 : WindowId).val, 7, (3 : MarkerId).val, 4,
          (31 : ChannelId).val, 32]
      ∧ (dir [31, 0, 0, 0]).payload.bytes.length = 4 :=
  ⟨handed_hands _ _, by decide +kernel⟩

/-- The window number, active, profile and class of a LOAD WINDOW body. -/
def windowFields (xs : List Nat) : List Nat :=
  (List.range 4).map (fun k => (byteAt (bytes (xs ++ List.replicate 8 0)) k).toNat)

/-- Window 7; active 2; profile 16; class 4; W0 with no profile; and W6 with P15. -/
theorem witness_LoadWindowStoresOrRefuses :
    (handed State.reset).Hands (dir ([6, 1, 15, 3] ++ List.replicate 8 0))
      ∧ windowFields [7, 0, 0, 0] = [7, 0, 0, 0] ∧ windowFields [6, 2, 0, 0] = [(6 : WindowId).val, 2, 0, 0]
      ∧ (windowFields [6, 1, 16, 0] = [6, 1, 16, 0] ∧ ¬ ((16 : Nat) < 16 ∨ (16 : Nat) = 255))
      ∧ (windowFields [6, 1, 15, 4] = [6, 1, 15, 4] ∧ ((15 : Nat) < 16 ∨ (15 : Nat) = 255))
      ∧ (windowFields [0, 2, 255, 3] = [(0 : WindowId).val, 2, 255, (3 : Fin 4).val]
        ∧ ((none : Option ProfileId).map (fun p => p.val)).getD 255 = 255)
      ∧ (windowFields [6, 1, 15, 3] = [6, 1, 15, 3]
        ∧ ((some 15 : Option ProfileId).map (fun p => p.val)).getD 255 = 15)
      ∧ (dir ([6, 1, 15, 3] ++ List.replicate 8 0)).payload.bytes.length = 12 :=
  ⟨handed_hands _ _, by decide +kernel⟩

/-- The marker number, enabled, field, action, report and chapter of a LOAD MARKER body. -/
def markerFields (xs : List Nat) : List Nat :=
  [0, 1, 5, 6, 7, 8].map (fun k => (byteAt (bytes (xs ++ List.replicate 11 0)) k).toNat)

/-- Marker 4; each field just above its range; and all at their upper ends. -/
theorem witness_LoadMarkerStoresOrRefuses :
    (handed State.reset).Hands (dir ([3, 1, 0, 0, 0, 2, 2, 1, 1] ++ List.replicate 11 0))
      ∧ markerFields [4, 0, 0, 0, 0, 0, 0, 0, 0] = [4, 0, 0, 0, 0, 0]
      ∧ markerFields [3, 2, 0, 0, 0, 0, 0, 0, 0] = [(3 : MarkerId).val, 2, 0, 0, 0, 0]
      ∧ markerFields [3, 1, 0, 0, 0, 3, 0, 0, 0] = [3, 1, 3, 0, 0, 0]
      ∧ markerFields [3, 1, 0, 0, 0, 2, 3, 0, 0] = [3, 1, 2, 3, 0, 0]
      ∧ markerFields [3, 1, 0, 0, 0, 2, 2, 2, 0] = [3, 1, 2, 2, 2, 0]
      ∧ markerFields [3, 1, 0, 0, 0, 2, 2, 1, 2] = [3, 1, 2, 2, 1, 2]
      ∧ markerFields [3, 1, 0, 0, 0, 2, 2, 1, 1] = [3, 1, 2, 2, 1, 1]
      ∧ (dir ([3, 1, 0, 0, 0, 2, 2, 1, 1] ++ List.replicate 11 0)).payload.bytes.length = 20 :=
  ⟨handed_hands _ _, by decide +kernel⟩

theorem witness_ClearMatchAndClearFaultLog :
    (handed { State.reset with matchFlags := Vector.replicate 4 true, faults := filledLog }).Hands
        (dir [5, 0, 0, 0])
      ∧ (dir [5, 0, 0, 0]).payload.bytes.length = 4
      ∧ (byteAt (dir [5, 0, 0, 0]).payload.bytes 0).getLsbD 2 = true :=
  ⟨handed_hands _ _, by decide +kernel⟩

/-! #### Channels -/

/-- The part with P0 valid, not P5, and section 2.9's windows. -/
def termPart (free : Nat) : State :=
  handed { State.reset with
    windows := termWindows, profiles := State.reset.profiles.set 0 recipe
    pool := { SlotPool.powerUp with free := (List.finRange 512).drop (512 - free) } }

/-- Channel 32; overrides 16 and 254; an open channel; a window without profile; a profile not
valid; one free slot too few; and the three states that refuse CLOSE or ABORT. -/
theorem witness_ChannelDirectivesRefused :
    (termPart 9).Hands (dir [3, 255, 0x56, 0, 1, 0, 0, 0])
      ∧ (byteAt (bytes [32, 255, 0, 0, 0, 0, 0, 0]) 0).toNat = 32
      ∧ [16, 254].map (fun n => (byteAt (bytes [31, n, 0, 0, 0, 0, 0, 0]) 1).toNat) = [16, 254]
      ∧ ((handed (withChannel 3 running)).channel 3).state ≠ .closed
      ∧ (((termPart 9).channel 3).state = .closed
        ∧ (chosenWindow (Vector.replicate 7 Window.zero) 0x560001).profile = none)
      ∧ ((chosenWindow (termPart 9).windows 0x123456).profile = some 5
        ∧ (termPart 9).profiles[5].valid = false)
      ∧ ((termPart 8).profiles[0].valid = true
        ∧ (termPart 8).pool.free.length < (termPart 8).profiles[0].count + 8)
      ∧ (State.reset.channel 31).state = .closed
      ∧ ((withChannel 3 { running with state := .aborting }).channel 3).state = .aborting
      ∧ ((withChannel 3 { running with state := .draining }).channel 3).state = .draining
      ∧ (dir [3, 255, 0x56, 0, 1, 0, 0, 0]).payload.bytes.length = 8
      ∧ (dir [3, 0, 0, 0]).payload.bytes.length = 4 :=
  ⟨handed_hands _ _, by decide +kernel⟩

/-- 9 free slots for one rendition, by the window and by an override. -/
theorem witness_OpenTaken :
    ((termPart 9).Hands (dir [3, 255, 0x56, 0, 1, 0, 0, 0])
        ∧ (termPart 9).Hands (dir [3, 0, 0x12, 0x34, 0x56, 0, 0, 0]))
      ∧ ((dir [3, 255, 0x56, 0, 1, 0, 0, 0]).payload.bytes.length = 8
        ∧ (byteAt (bytes [3, 255, 0x56, 0, 1, 0, 0, 0]) 0).toNat = (3 : ChannelId).val
        ∧ ((termPart 9).channel 3).state = .closed
        ∧ (byteAt (bytes [3, 255, 0x56, 0, 1, 0, 0, 0]) 1).toNat = 255
        ∧ (byteAt (bytes [3, 0, 0x12, 0x34, 0x56, 0, 0, 0]) 1).toNat = (0 : ProfileId).val
        ∧ (chosenWindow (termPart 9).windows
            (BitVec.ofNat 24 (beNat (field (bytes [3, 255, 0x56, 0, 1, 0, 0, 0]) 2 3)))).profile
              = some 0
        ∧ (termPart 9).profiles[0].valid = true ∧ (termPart 9).profiles[0].count ≤ 4
        ∧ (termPart 9).profiles[0].count + 8 ≤ (termPart 9).pool.free.length) :=
  ⟨⟨handed_hands _ _, handed_hands _ _⟩, by decide +kernel⟩

/-- A RUNNING channel without and with a partial picture. -/
theorem witness_CloseTaken :
    (handed reassembling).Hands (dir [3, 0, 0, 0])
      ∧ (dir [3, 0, 0, 0]).payload.bytes.length = 4
      ∧ (byteAt (bytes [3, 0, 0, 0]) 0).toNat = (3 : ChannelId).val
      ∧ (((withChannel 3 running).channel 3).state = .running
        ∧ ((withChannel 3 running).channel 3).assembly.isNone = true)
      ∧ ((reassembling.channel 3).state = .running
        ∧ (reassembling.channel 3).assembly.isSome = true) :=
  ⟨handed_hands _ _, by decide +kernel⟩

/-- A DRAINING channel with a rendition in flight. -/
def drainingBusy : State :=
  withChannel 3
    { running with state := .draining, contexts := [{ context 0 with inFlight := true }] }

/-- RUNNING with nothing in flight, with 64 bytes of room and with 63; DRAINING with a rendition in
flight. -/
theorem witness_AbortTaken :
    (∀ s, (handed s).Hands (dir [3, 0, 0, 0]))
      ∧ (dir [3, 0, 0, 0]).payload.bytes.length = 4
      ∧ (byteAt (bytes [3, 0, 0, 0]) 0).toNat = (3 : ChannelId).val
      ∧ (∀ n ∈ [268435392, 268435393],
        ((stored n (withChannel 3 running)).channel 3).state = .running
          ∧ ((stored n (withChannel 3 running)).channel 3).contexts.any (fun x => x.inFlight) = false
          ∧ ((stored n (withChannel 3 running)).channel 3).decodeInFlight = false
          ∧ (64 ≤ roomOf (stored n (withChannel 3 running)) ↔ n = 268435392))
      ∧ (drainingBusy.channel 3).state = .draining
      ∧ (drainingBusy.channel 3).contexts.any (fun x => x.inFlight) = true :=
  ⟨fun s => handed_hands s _, by decide +kernel⟩

/-! #### The ingest port -/

/-- A FIRST frame, and a payload that fails its check. -/
def goodFrame (ch : ChannelId) (sequence : BitVec 8) (time : Nat) : MediaFrame :=
  med ch sequence time [1, 2]
def badPayload : Payload := { payloadOf (bytes [1, 2]) with check := 0 }

theorem witness_PictureStartsUnit :
    reassembling.Delivers (goodFrame 3 0 200000).payload
      ∧ PayloadGood (goodFrame 3 0 200000).payload
      ∧ reassembling.pool.reserved = 41 :: [42, 43]
      ∧ (reassembling.channel 3).state = .running := by
  unfold State.Delivers PayloadGood
  decide +kernel

/-- The base is 1,000 and the last picture 97,000: 999 and 97,000 are late, 97,001 is not. -/
theorem witness_PicturesAcceptedOrLost :
    (((reassembling.channel 3).base.getD 999 = 1000)
        ∧ (reassembling.channel 3).lastPicture = some 97000)
      ∧ ((999 < 1000) ∧ (97000 ≤ 97000) ∧ ¬ (97001 < 1000) ∧ ¬ (97001 ≤ 97000))
      ∧ (reassembling.channel 3).assembly.isSome = true
      ∧ (reassembling.channel 4).assembly.isNone = true
      ∧ Channel.cleared.base.getD 5 = 5 := by decide +kernel

/-- Section 10.6's partial with another byte count. -/
def partialOf (n : Nat) : PartialPicture :=
  { slot := 40, bytes := n, expected := 0, timestamp := 200000, flags := 0 }
def reassemblingAt (n : Nat) : State :=
  linked (withChannel 3 { running with assembly := some (partialOf n) }) 1 0 [41, 42, 43]

/-- The partial with 2 bytes less than the limit and with 1: sequence 1 is wrong; 2 bytes fit the
first and not the second. -/
theorem witness_PictureContinues :
    (∀ n ∈ [1048574, 1048575], ∀ f ∈ [goodFrame 3 0 0, goodFrame 3 1 0],
        (reassemblingAt n).Delivers f.payload ∧ PayloadGood f.payload
          ∧ ((reassemblingAt n).channel f.channel).state = .running
          ∧ ((reassemblingAt n).channel f.channel).assembly = some (partialOf n)
          ∧ ((partialOf n).bytes + f.payload.bytes.length ≤ 1048576 ↔ n = 1048574))
      ∧ (goodFrame 3 1 0).sequence ≠ (partialOf 1048574).expected
      ∧ (goodFrame 3 0 0).sequence = (partialOf 1048574).expected := by
  unfold State.Delivers PayloadGood
  decide +kernel

/-- A RUNNING channel whose last audio unit was at 5,000, and one outstanding SMALL credit. -/
def afterAudio : State :=
  linked (withChannel 3 { running with lastAudio := some 5000 }) 1 0 []

/-- 999 is below the base; 4,999 is below the last audio, and late for an audio unit only; 5,000 is
late for neither. -/
theorem witness_SmallUnitTakesAnEntry :
    (∀ f ∈ [goodFrame 3 0 999, goodFrame 3 0 4999, goodFrame 3 0 5000],
        afterAudio.Delivers f.payload ∧ PayloadGood f.payload
          ∧ 0 < afterAudio.ingest.smallOutstanding
          ∧ (afterAudio.channel f.channel).state = .running)
      ∧ (afterAudio.channel 3).base.getD 0 = 1000 ∧ (afterAudio.channel 3).lastAudio = some 5000
      ∧ (goodFrame 3 0 999).timestamp.toNat < 1000
      ∧ (¬ (goodFrame 3 0 4999).timestamp.toNat < 1000
        ∧ (goodFrame 3 0 4999).timestamp.toNat < 5000 ∧ SmallKind.cue ≠ .audio)
      ∧ ¬ (goodFrame 3 0 5000).timestamp.toNat < 5000 := by
  unfold State.Delivers PayloadGood
  decide +kernel

theorem witness_StrayFrames :
    (∀ f ∈ [goodFrame 4 0 0, goodFrame 3 0 0],
        reassembling.Delivers f.payload ∧ PayloadGood f.payload)
      ∧ ((reassembling.channel 4).state ≠ .running ∧ reassembling.pool.reserved = 41 :: [42, 43])
      ∧ ((withChannel 3 running).channel 3).assembly.isNone = true
      ∧ (Position.first ≠ .only ∧ 0 < reassembling.ingest.smallOutstanding) := by
  unfold State.Delivers PayloadGood
  decide +kernel

theorem witness_FramesDroppedForCreditOrPayload :
    ((linked State.reset 0 0 []).Delivers (goodFrame 3 0 0).payload
        ∧ (linked State.reset 0 0 []).pool.reserved = []
        ∧ (linked State.reset 0 0 []).ingest.smallOutstanding = 0)
      ∧ (reassembling.Delivers badPayload ∧ ¬ PayloadGood badPayload
        ∧ reassembling.pool.reserved = 41 :: [42, 43]
        ∧ 0 < reassembling.ingest.smallOutstanding) := by
  unfold State.Delivers PayloadGood
  decide +kernel

/-- A short header fails. -/
theorem witness_IngestLinkLoss :
    reassembling.ingest.link = .up ∧ forwardHeaderFails (bytes [1, 2, 3]) = true := by
  decide +kernel

theorem witness_LinksComeUp : State.reset.ingest.link = .down := rfl

/-- No grant: link DOWN, limit reached, free list at 8. A grant of one: 9 free slots; 31 places
taken. -/
theorem witness_CreditsGranted :
    State.reset.ingest.link = .down
      ∧ (let s := linked State.reset 32 32 [0, 1, 2, 3, 4, 5, 6, 7];
        s.settings.pictureLimit - s.pool.reserved.length = 0
          ∧ s.settings.smallLimit - s.ingest.smallOutstanding = 0
          ∧ 32 - (s.reports.queue.length + (s.ingest.directiveUnspent + s.ingest.inHand)) = 0)
      ∧ (let s := linked State.reset 31 31 [0, 1, 2, 3, 4, 5, 6];
        s.ingest.link = .up ∧ s.hold.part = .running
          ∧ min (s.settings.pictureLimit - s.pool.reserved.length) (s.pool.free.length - 8) = 1
          ∧ min (s.settings.smallLimit - s.ingest.smallOutstanding)
              (128 - s.small.length - s.ingest.smallOutstanding) = 1
          ∧ 32 - (s.reports.queue.length + (s.ingest.directiveUnspent + s.ingest.inHand)) = 1) := by
  decide +kernel

/-- An UP link with a CREDIT frame and a report waiting, and the return direction's states. -/
def returning (credits : List CreditFrame) (wire : ReturnWire) : State :=
  { (linked State.reset 0 0 []).raise (.holdResult .accepted) with
    ingest := { (linked State.reset 0 0 []).ingest with creditQueue := credits, wire := wire } }

theorem witness_ReturnFramesSent :
    (returning [.reset] .idle).ingest.link = .up
      ∧ ((returning [.reset] .idle).ingest.creditQueue = .reset :: []
        ∧ (returning [.reset] .idle).ingest.wire = .idle
        ∧ (returning [.reset] .credit).ingest.wire = .credit)
      ∧ ((returning [] .idle).reports.queue =
          { eventsLost := false, body := .event (.holdResult .accepted) } :: []
        ∧ (returning [] .idle).ingest.wire = .idle ∧ (returning [] .idle).ingest.creditQueue = []
        ∧ (returning [.reset] .report).ingest.wire = .report)
      ∧ (returning [] .detached).ingest.wire = .detached := by decide +kernel

/-! #### Hold, restart and reset -/

/-- The wait, empty and reject fields of a HOLD body. -/
def holdFields (xs : List Nat) : Nat × Nat × Nat :=
  (beNat (field (bytes xs) 0 2), (byteAt (bytes xs) 2).toNat, (byteAt (bytes xs) 3).toNat)

theorem witness_HoldTaken :
    [holdFields [0x27, 0x11, 0, 0], holdFields [0x27, 0x10, 2, 0], holdFields [0x27, 0x10, 1, 2],
        holdFields [0, 0, 1, 1], holdFields [0, 1, 0, 0]] =
        [(10001, 0, 0), (10000, 2, 0), (10000, 1, 2), (0, 1, 1), (1, 0, 0)]
      ∧ ({ State.reset with hold := { part := .held, idleTimer := none,
                                      egressEmpty := false } }).hold.part ≠ .running
      ∧ ((withChannel 3 { running with state := .draining }).hold.part = .running
        ∧ ∃ ch, ((withChannel 3 { running with state := .draining }).channel ch).state = .draining
          ∨ ((withChannel 3 { running with state := .draining }).channel ch).state = .aborting)
      ∧ (¬ ∃ ch, (State.reset.channel ch).state = .draining
        ∨ (State.reset.channel ch).state = .aborting)
      ∧ ((∀ e : EncodeEngineId, State.reset.encode[e].isBusy = false)
        ∧ (∀ e : DecodeEngineId, State.reset.decode.engines[e].isDecoding = false)
        ∧ State.reset.egress.queue = [])
      ∧ ¬ (∀ e : EncodeEngineId, busy.encode[e].isBusy = false)
      ∧ (dir [0, 0, 1, 1]).payload.bytes.length = 4 := by decide +kernel

/-- The directive of that witness is in hand. -/
theorem witness_HoldTaken_hands : (handed busy).Hands (dir [0, 0, 1, 1]) := handed_hands _ _

/-- A part at rest in HOLD_PENDING. -/
def pendingHold : State :=
  { State.reset with hold := { part := .holdPending, idleTimer := some 1, egressEmpty := true } }

theorem witness_HoldEnds :
    (pendingHold.hold.part = .holdPending ∧ pendingHold.hold.idleTimer.isSome = true
        ∧ (∀ e : EncodeEngineId, pendingHold.encode[e].isBusy = false)
        ∧ (∀ e : DecodeEngineId, pendingHold.decode.engines[e].isDecoding = false)
        ∧ pendingHold.egress.queue = [])
      ∧ State.reset.hold.part = .running
      ∧ (dir [0, 0, 0, 0]).payload.bytes.length = 4 := by decide +kernel

/-- The directive of that witness is in hand, in each of the three part states. -/
theorem witness_HoldEnds_hands (h : HoldControl) :
    (handed { State.reset with hold := h }).Hands (dir [0, 0, 0, 0]) := handed_hands _ _

theorem witness_RestartAndPowerOnReset :
    (handed busy).Hands (dir [0, 0, 0, 0]) ∧ (dir [0, 0, 0, 0]).payload.bytes.length = 4 :=
  ⟨handed_hands _ _, by decide +kernel⟩

/-! #### The fault log and egress -/

theorem witness_FaultLogRecordsReads :
    State.reset.faults.hard = none ∧ filledLog.hard ≠ none
      ∧ ((∃ t, exec (.egressRead .correctable) { sending .unread .idle 1 with faults := filledLog } =
          .next t)
        ∧ filledLog.hard.isSome = true ∧ Instr.egressRead .correctable ≠ .powerOnReset
        ∧ ∀ f, Instr.egressRead .correctable ≠ .clearFaultLog f) :=
  ⟨rfl, by decide, next_of_completes _ _ (by decide +kernel), by decide, by decide, by intro f; nofun⟩

/-- A new head; a rewound one, and one read, with one credit and with none. -/
theorem witness_HeadIsReadAndItsFramesBegin :
    (sending .unread .idle 0).egress.queue =
        .coded { channel := 3, rendition := 0, segment := 0, time := 0, key := true } 5000
          (.engine 0 (.decoded 0 1280 720) none) :: []
      ∧ (sending .unread .idle 0).egress.head = .unread
      ∧ (∀ head ∈ [HeadState.rewound, .read none false none 0],
        (sending head .idle 1).egress.head = head ∧ (sending head .idle 1).egress.link = .up
          ∧ (sending head .idle 1).egress.wire = .idle ∧ (sending head .idle 1).hold.part ≠ .held
          ∧ 1 ≤ (sending head .idle 1).egress.credits
          ∧ ¬ 1 ≤ (sending head .idle 0).egress.credits) := by decide +kernel

/-- Payloads of 5,000 and 4,097 bytes at 4,096 go as two frames and 4,096 bytes as one; the first of
two frames, and the last; and a skip picture as a coded unit. -/
theorem witness_EntriesAreSentWhole :
    (0 < 4096 ∧ frameCount 4096 4096 = 1 ∧ frameCount 4097 4096 = 2)
      ∧ (∀ n ∈ [16, 17], 1 ≤ (EgressEntry.coded
          { channel := 3, rendition := 0, segment := 0, time := 0, key := false } n
            .skipPicture).size ∧ (n ≤ 16 ↔ n = 16))
      ∧ (let s := sending (.read none true (some 4096) 0) .frame 1;
        s.egress.wire = .frame ∧ s.egress.head = .read none true (some 4096) 0
          ∧ (s.egress.queue.map EgressEntry.size) = [5000]
          ∧ 0 + 1 < (5000 + 4096 - 1) / 4096 ∧ (5000 + 4096 - 1) / 4096 ≤ 1 + 1) := by
  decide +kernel

/-- Credits of 0, 1 and 255 with good checks, and one with a bad payload check. -/
theorem witness_EgressCreditsStallsAndLoss :
    (∀ n ∈ [0, 1, 255],
        beNat (field (creditFrame n).header 14 2) = (crc16 ((creditFrame n).header.take 14)).toNat
          ∧ (creditFrame n).check = crc32 (creditFrame n).payload
          ∧ byteAt (creditFrame n).header 0 = 0x07#8
          ∧ beNat (field (creditFrame n).header 12 2) = 4 ∧ (creditFrame n).payload.length = 4
          ∧ (creditFrame n).header.length = 16 ∧ (byteAt (creditFrame n).header 3).toNat = n)
      ∧ ({ creditFrame 1 with check := 0 }).check ≠ crc32 (creditFrame 1).payload
      ∧ (sending .unread .idle 1).egress.link = .up
      ∧ ({ EgressPort.powerOn with stallTimer := some 5000 }).stallTimer.isSome = true
      ∧ (sending .unread .detached 1).egress.wire = .detached := by decide +kernel

/-! #### Decoding and the segmenter -/

theorem witness_DecodeDispatchStartsTheOldest :
    (decodingA.hold.part = .running ∧ decodingA.decode.engines[1] = .idle
        ∧ (∀ g : DecodeEngineId, g < 1 → decodingA.decode.engines[g] ≠ .idle)
        ∧ decodingA.decode.queue = [waiting 4 211] ++ waiting 9 212 :: [waiting 17 213]
        ∧ (∀ x ∈ [waiting 4 211], (decodingA.channel x.channel).decodeInFlight = true)
        ∧ (decodingA.channel (waiting 9 212).channel).decodeInFlight = false)
      ∧ ({ decodingA.hold with part := .holdPending }).part ≠ .running
      ∧ (∀ e : DecodeEngineId, (#v[DecodeEngine.decoding (waiting 4 210) false,
          .holding { channel := 5, time := 0, delta := 1, flags := 0, source := none }])[e] ≠ .idle)
      ∧ ∀ x ∈ State.reset.decode.queue, (State.reset.channel x.channel).decodeInFlight = true := by
  decide +kernel

/-- The smallest picture a header can name, 160 by 96 with one coded byte, and the same header
naming two. -/
def smallPicture (coded : Nat) : List Nat :=
  [0, 160, 0, 96, 0, 0, 0, coded] ++ List.replicate 8 0 ++ [9]

/-- What R110 takes from the bytes of a compressed picture. -/
def pictureHeader (xs : List Nat) : Nat × Nat × Nat × Nat :=
  ((bytes xs).length, beNat (field (bytes xs) 0 2), beNat (field (bytes xs) 2 2),
    beNat (field (bytes xs) 4 4))

/-- Live and abandoned decodes; a good picture at the lower ends and a bad one; before and after the
first good picture; the last job-queue entry free and taken. -/
theorem witness_DecodeCompletes :
    (decodingOn (smallPicture 1)).decode.engines[0] = .decoding (waiting 3 210) false
      ∧ (decodingOn (smallPicture 1)).pool.slots[210].compressed = bytes (smallPicture 1)
      ∧ ((decodingOn (smallPicture 1)).channel 3).state = .running
      ∧ ((decodingOn (smallPicture 1)).channel 4).state ≠ .running
      ∧ ((decodingOn (smallPicture 1)).channel 4).state ≠ .draining
      ∧ (pictureHeader (smallPicture 1) = (17, 160, 96, 1) ∧ 1 ≤ 17 - 16)
      ∧ (pictureHeader (smallPicture 2) = (17, 160, 96, 2) ∧ ¬ 2 ≤ 17 - 16)
      ∧ ReadOutcome.clean ≠ .uncorrectable
      ∧ (running.firstGood = true ∧ Channel.cleared.firstGood = false)
      ∧ (∀ n ∈ [255, 256], (withJobs n (decodingOn (smallPicture 1))).decode.engines[0] =
          .decoding (waiting 3 210) false
        ∧ ((withJobs n (decodingOn (smallPicture 1))).jobs.length
            + (withJobs n (decodingOn (smallPicture 1))).profiles[3].count ≤ 256 ↔ n = 255)) := by
  decide +kernel

/-- Channel 3 with a picture held on DE1. -/
def holdingOne : State :=
  { withChannel 3 running with
    decode := { queue := [], engines := #v[.idle, .holding (picture 97600 true)], held := [1] } }

/-- The channel that the segmenter decides a cut on, after the markers of a picture (no marker is
enabled here). -/
def decided (c : Channel) : Channel :=
  ((withChannel 3 c).evaluateMarkers
    { channel := 3, kind := .picture, time := 96000, flags := 0, code := 0 }).channel 3

/-- Before the first good picture, good and concealed; a timed and a marked cut at the first tick
they are due; no cut one tick earlier; a full table; and a held picture with and without room. -/
theorem witness_SegmenterTakesPicture :
    ((picture 96000 true).source.isSome = true ∧ (picture 96000 false).source.isSome = false)
      ∧ ((decided { running with firstGood := false, segments := [] }).firstGood = false)
      ∧ ((decided { running with nextCut := 96000 }).firstGood = true
        ∧ (decided running).segments.getLast? = some (entry 0 .opened 0 2)
        ∧ (decided { running with nextCut := 96000 }).nextCut ≤ 96000
        ∧ (decided running).segments.length < 4)
      ∧ ((decided markedCut).cutPending = some { notBefore := 50000, chapter := some 0 }
        ∧ 50000 ≤ 96000 ∧ recipe.minimumTicks ≤ 96000 - 0)
      ∧ (¬ (decided { running with nextCut := 96001 }).nextCut ≤ 96000
        ∧ (decided running).cutPending = none)
      ∧ 4 ≤ (decided { running with segments :=
          [entry 0 (.closing 1) 0 1, entry 1 (.closing 1) 1 1, entry 2 (.closing 1) 2 1,
            entry 3 .opened 3 1] }).segments.length
      ∧ (∀ n ∈ [255, 256], (withJobs n holdingOne).decode.held = 1 :: []
        ∧ (withJobs n holdingOne).decode.engines[1] = .holding (picture 97600 true)
        ∧ ((withJobs n holdingOne).jobs.length
            + (withJobs n holdingOne).profiles[((withJobs n holdingOne).channel 3).profile].count
              ≤ 256 ↔ n = 255)) := by decide +kernel

/-! #### Jobs and engines -/

/-- The one QUEUED job of `dispatching`. -/
def queuedJob : Job := { job .queued with keyRequired := true }

/-- The job is eligible, and the only one that is. -/
theorem witness_EngineDispatch_eligible :
    (let s := dispatching 32000 true;
      s.jobs[0]? = some queuedJob ∧ queuedJob.state = .queued ∧ queuedJob.skip = false
        ∧ (∀ (h : Nat) (x : Job), h < 0 → s.jobs[h]? = some x →
          x.channel = queuedJob.channel → x.rendition = queuedJob.rendition → x.state ≠ .queued)
        ∧ (∀ x ∈ s.jobs, x.channel = queuedJob.channel → x.rendition = queuedJob.rendition →
          x.state = .queued)
        ∧ ∀ (h : Nat) (k : Job), s.jobs[h]? = some k →
          k.cls ≤ queuedJob.cls ∧ (k.cls = queuedJob.cls → 0 ≤ h)) := by
  refine ⟨rfl, rfl, rfl, fun h _ hh => absurd hh (Nat.not_lt_zero h), ?_, ?_⟩
  · intro x hx _ _
    simp only [dispatching, List.mem_singleton] at hx
    subst hx
    rfl
  · intro h k hk
    match h with
    | 0 => cases hk; exact ⟨Nat.le_refl _, fun _ => Nat.zero_le _⟩
    | n + 1 => simp [dispatching] at hk

/-- The rest of the hypotheses, with exactly the cap's room, and one byte less; and the three cases
in which nothing starts. -/
theorem witness_EngineDispatch :
    (let s := dispatching 32000 true;
      s.hold.part = .running ∧ s.encode[0] = .idle
        ∧ (∀ g : EncodeEngineId, g < 0 → s.encode[g] ≠ .idle)
        ∧ queuedJob.rendition = (0 : Fin 4).val
        ∧ queuedJob.source = some { slot := 7, width := 1920, height := 1080 }
        ∧ (s.channel 3).contexts[0]? = some (context 32000)
        ∧ s.pool.free = 0 :: (List.finRange 512).drop 1
        ∧ s.profiles[3].renditions[0].cap * 1024 = 16384)
      ∧ (∀ n ∈ [268419072, 268419073],
          (16384 ≤ roomOf (stored n (dispatching 32000 true)) ↔ n = 268419072))
      ∧ pendingHold.hold.part ≠ .running
      ∧ (∀ e : EncodeEngineId,
          (Vector.replicate 6 (EncodeEngine.busy none none))[e] ≠ EncodeEngine.idle)
      ∧ State.reset.jobs = [] := by decide +kernel

/-- A QUEUED skip job. -/
def skipJob : Job := { job .queued with skip := true }

theorem witness_SkipCompletion :
    (([skipJob] = [] ++ skipJob :: []) ∧ skipJob.channel = 3 ∧ skipJob.rendition = (0 : Fin 4).val
        ∧ skipJob.state = .queued
        ∧ (∀ x ∈ ([] : List Job), ¬ (x.channel = 3 ∧ x.rendition = (0 : Fin 4).val))
        ∧ ((withChannel 3 running).channel 3).contexts[0]? = some (context 32000))
      ∧ ((withChannel 3 running).hold.part = .running ∧ skipJob.skip = true
        ∧ 16 ≤ roomOf (stored 268435440 (withChannel 3 running)))
      ∧ ¬ 16 ≤ roomOf (stored 268435441 (withChannel 3 running)) ∧ queuedJob.skip = false
      ∧ (∀ x ∈ State.reset.jobs, ¬ (x.channel = 3 ∧ x.rendition = (0 : Fin 4).val))
      ∧ ∃ x ∈ busy.jobs, x.channel = 3 ∧ x.rendition = (0 : Fin 4).val ∧ x.state ≠ .queued := by
  decide +kernel

/-- The one job on EE0, its reads not ended; an engine whose reads have; an idle engine. -/
theorem witness_EncodeEngineReads :
    (busy.encode[0] = .busy none none
        ∧ busy.jobs[0]? = some (job (.running onEngine false)) ∧ onEngine.engine = 0
        ∧ (∀ (k : Nat) (x : Job) (d : DispatchRecord) (b : Bool), busy.jobs[k]? = some x →
          x.state = .running d b → d.engine = 0 → k = 0)
        ∧ (job (.running onEngine false)).rendition = (0 : Fin 4).val
        ∧ (busy.channel 3).contexts[0]? = some (context 32000)
        ∧ (job (.running onEngine false)).source =
          some { slot := 7, width := 1920, height := 1080 })
      ∧ onEngine.key = false ∧ ({ onEngine with key := true }).key = true
      ∧ (some ReadOutcome.clean ≠ none) ∧ busy.encode[1] = .idle := by
  refine ⟨⟨by decide +kernel, rfl, rfl, ?_, rfl, by decide +kernel, rfl⟩, rfl, rfl, nofun,
    by decide +kernel⟩
  intro k x d b hk _ _
  match k with
  | 0 => rfl
  | n + 1 => simp [busy, encoding] at hk

/-- Reports of the least and the greatest size, and of one byte less and more; a source-damaged one;
a job that is normal, and an abandoned one. -/
theorem witness_EncodeCompletions :
    busy.encode[1] = .idle
      ∧ (16 ≤ (report 16 false).size ∧ (report 16384 true).size ≤ onEngine.cap
        ∧ ¬ 16 ≤ (report 15 false).size ∧ ¬ (report 16385 false).size ≤ onEngine.cap)
      ∧ ((report 16 false).sourceDamaged = true ↔
          (none : Option ReadOutcome) = some .uncorrectable)
      ∧ ((report 16 false).referenceDamaged = true ↔
          (none : Option ReadOutcome) = some .uncorrectable)
      ∧ ((report 16 false).key = (onEngine.key || (report 16 false).referenceDamaged))
      ∧ (let rep : CompletionReport := { report 16 false with sourceDamaged := true };
        (rep.sourceDamaged = true ↔
            (some .uncorrectable : Option ReadOutcome) = some .uncorrectable)
          ∧ rep.size = 16 ∧ rep.key = false ∧ rep.capped = false)
      ∧ (busy.channel 3).state = .running
      ∧ ((encoding { running with state := .aborting } true).channel 3).state ≠ .running
      ∧ ((encoding { running with state := .aborting } true).channel 3).state ≠ .draining := by
  decide +kernel

/-! #### The ends of channels and the audio path -/

theorem witness_SegmentsLeaveTheTable :
    (([entry 0 (.closing 96000) 0 0] = entry 0 (.closing 96000) 0 0 :: [])
        ∧ (entry 0 (.closing 96000) 0 0).state = .closing 96000
        ∧ (entry 0 (.closing 96000) 0 0).outstanding = 0
        ∧ 64 ≤ roomOf (stored 268435392 (withChannel 3 running)))
      ∧ ((entry 0 .opened 0 0).state = .opened ∧ (entry 0 (.closing 1) 0 1).outstanding ≠ 0
        ∧ roomOf (stored 268435393 (withChannel 3 running)) < 64)
      ∧ (State.reset.channel 3).segments = []
      ∧ (let s := withChannel 3 { running with state := .draining };
        (s.channel 3).segments = [] ++ [entry 0 .opened 0 2] ∧ (s.channel 3).state = .draining
          ∧ (entry 0 .opened 0 2).state = .opened ∧ (s.channel 3).decodeInFlight = false
          ∧ (∀ d ∈ s.decode.queue, d.channel ≠ 3) ∧ (∀ x ∈ s.small, x.channel ≠ 3)
          ∧ (s.channel 3).lastPicture = some 97000 ∧ (s.channel 3).base = some 1000)
      ∧ (running.segments = [] ++ [entry 0 .opened 0 2] ∧ running.state ≠ .draining) := by
  decide +kernel

theorem witness_ChannelsComplete :
    (let s := withChannel 3 { running with state := .draining, segments := [] };
      (s.channel 3).state = .draining ∧ (s.channel 3).segments = []
        ∧ (s.channel 3).decodeInFlight = false ∧ (∀ j ∈ s.jobs, j.channel ≠ 3)
        ∧ (∀ d ∈ s.decode.queue, d.channel ≠ 3) ∧ (∀ x ∈ s.small, x.channel ≠ 3)
        ∧ 64 ≤ 268435456 - (s.egress.reservedBytes + s.egress.queuedBytes))
      ∧ (let s := withChannel 3 { running with state := .aborting };
        (s.channel 3).state = .aborting ∧ (s.channel 3).decodeInFlight = false
          ∧ (∀ x ∈ (s.channel 3).contexts, x.inFlight = false))
      ∧ (running.state ≠ .draining ∧ running.state ≠ .aborting)
      ∧ ¬ 64 ≤ roomOf (stored 268435393 (withChannel 3 running)) := by decide +kernel

/-- Cues of 4 and 3 bytes; an audio unit of 32 bytes, with exactly its room, and one of 30; with a
segment and before the first. -/
theorem witness_HeadSmallUnitIsProcessed :
    (buffered .cue [0, 0, 0, 5]).small =
        { channel := 3, kind := .cue, timestamp := 51000, flags := 0, payload := bytes [0, 0, 0, 5] }
          :: []
      ∧ pendingHold.hold.part ≠ .running ∧ (buffered .cue [0, 0, 0, 5]).hold.part = .running
      ∧ ((bytes [0, 0, 0, 5]).length = 4 ∧ (bytes [0, 0, 5]).length ≠ 4)
      ∧ ((buffered .audio loudUnit).small.map (fun u => u.kind) = [.audio]
        ∧ (buffered .audio loudUnit).profiles[3].audioEnabled = 1
        ∧ (bytes loudUnit).length = 32 ∧ 32 % 2 = 0 ∧ 32 ≤ 32 ∧ 32 ≤ 3840)
      ∧ ¬ 32 ≤ (bytes (loudUnit.drop 2)).length
      ∧ (32 ≤ roomOf (stored 268435424 (buffered .audio loudUnit))
        ∧ ¬ 32 ≤ roomOf (stored 268435425 (buffered .audio loudUnit)))
      ∧ running.segments = [] ++ [entry 0 .opened 0 2]
      ∧ ({ running with segments := [] }).segments = [] := by decide +kernel

end Sys2Proof.Tests
end

/-! SUPPORT. Channels and recordings (chapter 1): what OPEN, CLOSE, ABORT, the acceptance of a
picture and the drain and abort completions do. First how a directive is handed over and what each shared
operation writes, then each directive's answer case by case, then the statements. -/

namespace Sys2Proof.Machine

/-! ### What the taking of a directive leaves alone -/

@[simp] theorem State.taking_profiles (s : State) : s.taking.profiles = s.profiles := by
  obtain ⟨i, h, -⟩ := s.taking_spec; rw [h]
@[simp] theorem State.taking_windows (s : State) : s.taking.windows = s.windows := by
  obtain ⟨i, h, -⟩ := s.taking_spec; rw [h]
@[simp] theorem State.taking_channels (s : State) : s.taking.channels = s.channels := by
  obtain ⟨i, h, -⟩ := s.taking_spec; rw [h]
@[simp] theorem State.taking_pool (s : State) : s.taking.pool = s.pool := by
  obtain ⟨i, h, -⟩ := s.taking_spec; rw [h]
@[simp] theorem State.taking_decode (s : State) : s.taking.decode = s.decode := by
  obtain ⟨i, h, -⟩ := s.taking_spec; rw [h]
@[simp] theorem State.taking_jobs (s : State) : s.taking.jobs = s.jobs := by
  obtain ⟨i, h, -⟩ := s.taking_spec; rw [h]
@[simp] theorem State.taking_small (s : State) : s.taking.small = s.small := by
  obtain ⟨i, h, -⟩ := s.taking_spec; rw [h]
@[simp] theorem State.taking_egress (s : State) : s.taking.egress = s.egress := by
  obtain ⟨i, h, -⟩ := s.taking_spec; rw [h]
@[simp] theorem State.taking_channel (s : State) (ch : ChannelId) :
    s.taking.channel ch = s.channel ch :=
  State.channel_congr s.taking_channels ch
@[simp] theorem State.beginReturn_channel (s : State) (ch : ChannelId) :
    s.beginReturn.channel ch = s.channel ch :=
  State.channel_congr s.beginReturn_channels ch

/-! ### The answer of a directive -/

/-- R148: a directive handed over whose rule yields a state and an answer. -/
theorem runDirective_of_answer {s t : State} {f : DirectiveFrame} {n : Nat} {a : Answer}
    {act : List Byte → State → State × Answer} (h : s.Hands f)
    (hl : f.payload.bytes.length = n) (code : Byte)
    (ha : act f.payload.bytes s.taking = (t, a)) :
    runDirective code n act f s =
      .next ((t.reply f.tag code a.result a.data).raiseAll a.events) := by
  rw [runDirective_of_hands h, State.takeDirective_of_length hl, ha]

/-- R148: a refused directive changes nothing but the reply. -/
theorem runDirective_of_refusal {s : State} {f : DirectiveFrame} {n : Nat} {r : Result}
    {act : List Byte → State → State × Answer} (h : s.Hands f)
    (hl : f.payload.bytes.length = n) (code : Byte)
    (ha : act f.payload.bytes s.taking = (s.taking, Answer.of r)) :
    runDirective code n act f s = .next (s.answered f code r .none) :=
  runDirective_of_answer h hl code ha

/-- The number that the first byte of a body spells. -/
theorem objectNumber_firstByte {b : List Byte} {ch : ChannelId} (hl : 0 < b.length)
    (h : (byteAt b 0).toNat = ch.val) : objectNumber 32 (bodyNat b 0 1) = some ch := by
  rw [bodyNat_byte b 0 hl, h]; exact objectNumber_of_lt ch.isLt

theorem objectNumber_firstByte_none {b : List Byte} (hl : 0 < b.length)
    (h : 32 ≤ (byteAt b 0).toNat) : objectNumber 32 (bodyNat b 0 1) = none := by
  rw [bodyNat_byte b 0 hl]; exact objectNumber_of_le h

/-! ### OPEN (R2 to R4, R30) -/

theorem readProfileChoice_bad {x : Nat} (h16 : 16 ≤ x) (h254 : x ≤ 254) :
    readProfileChoice x = .bad := by
  rw [readProfileChoice_eq, if_neg (by omega), dif_neg (by omega)]

theorem readProfileChoice_ne_bad {x : Nat} (h : x < 16 ∨ x = 255) :
    readProfileChoice x ≠ .bad := by
  rw [readProfileChoice_eq]
  rcases h with h | h
  · rw [if_neg (by omega), dif_pos h]; exact ProfileChoice.noConfusion
  · rw [if_pos h]; exact ProfileChoice.noConfusion

/-- R30: the override, or else the chosen window, selects the profile. -/
theorem selectedProfile_eq_some {x : Nat} {w : Window} {p : ProfileId}
    (h : x = p.val ∨ (x = 255 ∧ w.profile = some p)) :
    selectedProfile (readProfileChoice x) w = some p := by
  rw [readProfileChoice_eq]
  rcases h with rfl | ⟨rfl, hw⟩
  · rw [if_neg (by omega), dif_pos p.isLt]; rfl
  · rw [if_pos rfl]; exact hw

section Open
variable {b : List Byte} {s : State} {ch : ChannelId}

/-- The course number that OPEN names, R166. -/
abbrev openCourse (b : List Byte) : BitVec 24 := BitVec.ofNat 24 (bodyNat b 2 3)

/-- R30: the profile that an OPEN selects. -/
abbrev openProfile (b : List Byte) (s : State) : Option ProfileId :=
  selectedProfile (readProfileChoice (bodyNat b 1 1)) (chosenWindow s.windows (openCourse b))

theorem takeOpen_of_badChannel (h : objectNumber 32 (bodyNat b 0 1) = none) :
    takeOpen b s = (s, Answer.of (.badField 0)) := by
  rw [takeOpen, h]

theorem takeOpen_of_badOverride (hch : objectNumber 32 (bodyNat b 0 1) = some ch)
    (h : readProfileChoice (bodyNat b 1 1) = .bad) :
    takeOpen b s = (s, Answer.of (.badField 2)) := by
  rw [takeOpen, hch, h]

variable (hch : objectNumber 32 (bodyNat b 0 1) = some ch)
  (hov : readProfileChoice (bodyNat b 1 1) ≠ .bad)
include hch hov

theorem takeOpen_of_notClosed (hs : (s.channel ch).state ≠ .closed) :
    takeOpen b s = (s, Answer.of .state) := by
  simp [takeOpen, hch, hs]

variable (hs : (s.channel ch).state = .closed)
include hs

theorem takeOpen_of_noProfile (hp : openProfile b s = none) :
    takeOpen b s = (s, Answer.of .noProfile) := by
  simp [takeOpen, hch, hs, hp]

variable {p : ProfileId} (hp : openProfile b s = some p)
include hp

theorem takeOpen_of_invalidProfile (hv : s.profiles[p].valid = false) :
    takeOpen b s = (s, Answer.of .noProfile) := by
  rw [Fin.getElem_fin] at hv
  simp [takeOpen, hch, hs, hp, hv]

variable (hv : s.profiles[p].valid = true)
include hv

theorem takeOpen_of_fewSlots (hf : s.pool.free.length < s.profiles[p].count + 8) :
    takeOpen b s = (s, Answer.of .noSlots) := by
  rw [Fin.getElem_fin] at hv hf
  simp [takeOpen, hch, hs, hp, hv, hf, Config.engineReserve]

theorem takeOpen_of_slots (hf : s.profiles[p].count + 8 ≤ s.pool.free.length) :
    takeOpen b s =
      (s.openWith ch (openCourse b) p (chosenWindow s.windows (openCourse b)).cls,
        Answer.of .done) := by
  rw [Fin.getElem_fin] at hv hf
  simp [takeOpen, hch, hs, hp, hv, Nat.not_lt.mpr hf, Config.engineReserve]

end Open

/-- R3: the contexts of an OPEN, one for each rendition below V, in rendition order. -/
theorem getElem?_contextsAtOpen (specs : Vector RenditionSpec 4) (slots : List SlotId)
    (r : Fin 4) :
    (List.zipWith RenditionContext.atOpen specs.toList slots)[r.val]? =
      slots[r.val]?.map (RenditionContext.atOpen specs[r]) := by
  have hr : specs.toList[r.val]? = some specs[r] := by simp
  rw [List.getElem?_zipWith, hr]
  cases slots[r.val]? <;> rfl

/-! ### The partial picture (R94) and the acceptance of a picture (R5, R6) -/

theorem State.discardPartial_of_none {s : State} {ch : ChannelId}
    (h : (s.channel ch).assembly = none) : s.discardPartial ch = s := by
  rw [State.discardPartial, h]

theorem State.discardPartial_of_some {s : State} {ch : ChannelId} {part : PartialPicture}
    (h : (s.channel ch).assembly = some part) :
    s.discardPartial ch = { s with
      pool := s.pool.release part.slot
      channels := s.channels.set ch { s.channel ch with
        assembly := none, counters := (s.channel ch).counters.lost } } := by
  rw [State.discardPartial, h]; rfl

theorem Channel.adoptBase_eq (c : Channel) (time : Nat) :
    c.adoptBase time = { c with base := some (c.base.getD time) } := by
  cases h : c.base with
  | none => rw [Channel.adoptBase, h]; rfl
  | some base =>
    have keeps : c.adoptBase time = c := by rw [Channel.adoptBase, h]
    rw [keeps, Option.getD_some, ← h]

/-- R6: when a picture is late on a channel that has adopted a base. -/
theorem Channel.pictureLate_adoptBase (c : Channel) (time : Nat) :
    (c.adoptBase time).pictureLate time = true ↔
      time < c.base.getD time ∨ ∃ l, c.lastPicture = some l ∧ time ≤ l := by
  rw [Channel.adoptBase_eq]
  cases c.lastPicture <;> simp [Channel.pictureLate, Channel.belowBase]

theorem State.acceptPicture_of_late {s : State} {ch : ChannelId} {time : Nat}
    (h : ((s.channel ch).adoptBase time).pictureLate time = true) (slot : SlotId)
    (flags : BitVec 16) :
    s.acceptPicture ch slot time flags = { s with
      pool := s.pool.release slot
      channels := s.channels.set ch { s.channel ch with
        base := some ((s.channel ch).base.getD time)
        counters := (s.channel ch).counters.late } } := by
  rw [State.acceptPicture, if_pos h, Channel.adoptBase_eq]; rfl

theorem State.acceptPicture_of_inTime {s : State} {ch : ChannelId} {time : Nat}
    (h : ¬ ((s.channel ch).adoptBase time).pictureLate time = true) (slot : SlotId)
    (flags : BitVec 16) :
    s.acceptPicture ch slot time flags = { s with
      pool := s.pool.mark slot .decodeWait
      channels := s.channels.set ch { s.channel ch with
        base := some ((s.channel ch).base.getD time), lastPicture := some time }
      decode := { s.decode with queue := s.decode.queue ++
        [{ channel := ch, slot := slot, time := time - (s.channel ch).base.getD time
           delta := (s.channel ch).pictureDelta (s.profileOf ch).intervalHint time
           flags := flags }] } } := by
  rw [State.acceptPicture, if_neg h, Channel.adoptBase_eq]; rfl

/-! ### CLOSE (R8, R9) -/

section Close
variable {b : List Byte} {s : State} {ch : ChannelId}

theorem takeClose_of_badChannel (h : objectNumber 32 (bodyNat b 0 1) = none) :
    takeClose b s = (s, Answer.of (.badField 0)) := by
  rw [takeClose, h]

variable (hch : objectNumber 32 (bodyNat b 0 1) = some ch)
include hch

theorem takeClose_of_closed (hs : (s.channel ch).state = .closed) :
    takeClose b s = (s, Answer.of .notOpen) := by
  simp only [takeClose, hch, hs]

theorem takeClose_of_ending
    (hs : (s.channel ch).state = .draining ∨ (s.channel ch).state = .aborting) :
    takeClose b s = (s, Answer.of .state) := by
  rcases hs with hs | hs <;> simp only [takeClose, hch, hs]

theorem takeClose_of_running (hs : (s.channel ch).state = .running) :
    takeClose b s =
      ((s.modChannel ch (fun c => { c with state := .draining })).discardPartial ch,
        Answer.of .done) := by
  simp only [takeClose, hch, hs]

end Close

/-! ### ABORT's answers (R13) -/

section Abort
variable {b : List Byte} {s : State} {ch : ChannelId}

theorem takeAbort_of_badChannel (h : objectNumber 32 (bodyNat b 0 1) = none) :
    takeAbort b s = (s, Answer.of (.badField 0)) := by
  rw [takeAbort, h]

variable (hch : objectNumber 32 (bodyNat b 0 1) = some ch)
include hch

theorem takeAbort_of_closed (hs : (s.channel ch).state = .closed) :
    takeAbort b s = (s, Answer.of .notOpen) := by
  simp only [takeAbort, hch, hs]

theorem takeAbort_of_aborting (hs : (s.channel ch).state = .aborting) :
    takeAbort b s = (s, Answer.of .state) := by
  simp only [takeAbort, hch, hs]

theorem takeAbort_of_live
    (hs : (s.channel ch).state = .running ∨ (s.channel ch).state = .draining) :
    takeAbort b s = (((s.abortWork ch).finishAbort ch).1,
      { result := .done, data := .none, events := ((s.abortWork ch).finishAbort ch).2 }) := by
  rcases hs with hs | hs <;> simp only [takeAbort, hch, hs]

end Abort

/-! ### The drain and abort completions (R12, R15) -/

/-- R122: the store has room for a record. -/
theorem EgressPort.recordFits_iff (p : EgressPort) :
    decide (Config.recordBytes ≤ p.room) = true ↔
      64 ≤ 268435456 - (p.reservedBytes + p.queuedBytes) :=
  decide_eq_true_iff

theorem State.drained_iff (s : State) (ch : ChannelId) :
    s.drained ch = true ↔ (s.channel ch).state = .draining ∧ (s.channel ch).segments = []
      ∧ (s.channel ch).decodeInFlight = false ∧ (∀ j ∈ s.jobs, j.channel ≠ ch)
      ∧ (∀ d ∈ s.decode.queue, d.channel ≠ ch) ∧ ∀ x ∈ s.small, x.channel ≠ ch := by
  simp only [State.drained, State.inputsDone, Bool.and_eq_true, beq_iff_eq, List.isEmpty_iff,
    List.all_eq_true, bne_iff_ne, Bool.not_eq_true']
  tauto

theorem Channel.abortDone_iff (c : Channel) :
    c.abortDone = true ↔
      c.state = .aborting ∧ c.decodeInFlight = false ∧ ∀ x ∈ c.contexts, x.inFlight = false := by
  simp [Channel.abortDone, and_assoc]

/-- R15: what keeps an ABORTING channel from its completion is its work on an engine. -/
theorem Channel.abortDone_iff_not {c : Channel} (h : c.state = .aborting) :
    c.abortDone = true ↔ ¬ (c.decodeInFlight = true ∨ ∃ x ∈ c.contexts, x.inFlight = true) := by
  rw [Channel.abortDone_iff]; simp [h]

theorem State.finishAbort_of_due {s : State} {ch : ChannelId}
    (h : (s.channel ch).abortDone = true)
    (hr : 64 ≤ 268435456 - (s.egress.reservedBytes + s.egress.queuedBytes)) :
    s.finishAbort ch = (s.endChannel ch .aborted, [(s.channel ch).closedEvent ch .aborted]) := by
  rw [State.finishAbort, h, (EgressPort.recordFits_iff _).2 hr]; rfl

theorem State.finishAbort_of_not_due {s : State} {ch : ChannelId}
    (h : ¬ (s.channel ch).abortDone = true ∨
      ¬ 64 ≤ 268435456 - (s.egress.reservedBytes + s.egress.queuedBytes)) :
    s.finishAbort ch = (s, []) := by
  refine if_neg fun hd => ?_
  obtain ⟨hd, hr⟩ := Bool.and_eq_true_iff.1 hd
  exact h.elim (· hd) (· ((EgressPort.recordFits_iff _).1 hr))

/-- R12 and R15: the channel's end, its event apart, writes its record, the pool and the store. -/
theorem State.endChannel_eq (s : State) (ch : ChannelId) (outcome : ChannelOutcome) :
    s.endChannel ch outcome = { s with
      channels := s.channels.set ch (s.channel ch).closed
      pool := s.pool.releaseAll ((s.channel ch).contexts.map (fun x => x.reference))
      egress := { s.egress with
        queue := s.egress.queue ++ [.ended ((s.channel ch).endRecord ch outcome)]
        queuedBytes := s.egress.queuedBytes + 64 } } := rfl

theorem exec_drainCompletion_of_due {s : State} {ch : ChannelId}
    (h : s.beginReturn.drained ch = true)
    (hr : 64 ≤ 268435456 - (s.beginReturn.egress.reservedBytes
      + s.beginReturn.egress.queuedBytes)) :
    exec (.drainCompletion ch) s = .next ((s.beginReturn.endChannel ch .completed).raise
      ((s.beginReturn.channel ch).closedEvent ch .completed)) :=
  if_pos (Bool.and_eq_true_iff.2 ⟨h, (EgressPort.recordFits_iff _).2 hr⟩)

theorem exec_drainCompletion_of_not_due {s : State} {ch : ChannelId}
    (h : ¬ s.beginReturn.drained ch = true ∨
      ¬ 64 ≤ 268435456 - (s.beginReturn.egress.reservedBytes
        + s.beginReturn.egress.queuedBytes)) :
    exec (.drainCompletion ch) s = .next s.beginReturn := by
  refine if_neg fun hd => ?_
  obtain ⟨hd, hr⟩ := Bool.and_eq_true_iff.1 hd
  exact h.elim (· hd) (· ((EgressPort.recordFits_iff _).1 hr))

theorem exec_abortCompletion (s : State) (ch : ChannelId) :
    exec (.abortCompletion ch) s =
      .next ((s.beginReturn.finishAbort ch).1.raiseAll (s.beginReturn.finishAbort ch).2) := rfl

/-! ### Rewrites of one channel record -/

theorem State.modChannel_modChannel (s : State) (ch : ChannelId) (f g : Channel → Channel) :
    (s.modChannel ch f).modChannel ch g = s.modChannel ch (fun c => g (f c)) := by
  simp [State.modChannel]

/-- A rewrite matters at the channel's own record alone. -/
theorem State.modChannel_congr {s : State} {ch : ChannelId} {f g : Channel → Channel}
    (h : f (s.channel ch) = g (s.channel ch)) : s.modChannel ch f = s.modChannel ch g :=
  congrArg (fun c => { s with channels := s.channels.set ch c }) h

theorem State.modChannel_of_fixed {s : State} {ch : ChannelId} {f : Channel → Channel}
    (h : f (s.channel ch) = s.channel ch) : s.modChannel ch f = s := by
  rw [State.modChannel_congr (g := fun c => c) h]
  simp [State.modChannel]

/-! ### A channel without its partial picture (R94) -/

/-- The slot of a channel's partial picture. -/
def Channel.partialSlots (c : Channel) : List SlotId :=
  c.assembly.toList.map (fun part => part.slot)

/-- R94: the record of a channel whose partial picture, if any, is discarded. -/
def Channel.withoutPartial (c : Channel) : Channel :=
  { c with assembly := none
           counters := if c.assembly = none then c.counters else c.counters.lost }

theorem Channel.partialSlots_of_none {c : Channel} (h : c.assembly = none) :
    c.partialSlots = [] := by
  rw [Channel.partialSlots, h]; rfl

theorem Channel.partialSlots_of_some {c : Channel} {part : PartialPicture}
    (h : c.assembly = some part) : c.partialSlots = [part.slot] := by
  rw [Channel.partialSlots, h]; rfl

theorem Channel.withoutPartial_of_none {c : Channel} (h : c.assembly = none) :
    c.withoutPartial = c := by
  rw [Channel.withoutPartial, if_pos h, ← h]

theorem Channel.withoutPartial_of_some {c : Channel} {part : PartialPicture}
    (h : c.assembly = some part) :
    c.withoutPartial = { c with assembly := none, counters := c.counters.lost } := by
  rw [Channel.withoutPartial, if_neg (by simp [h])]

/-- R94 in both cases at once. -/
theorem State.discardPartial_eq (s : State) (ch : ChannelId) :
    s.discardPartial ch =
      State.modChannel { s with pool := s.pool.releaseAll (s.channel ch).partialSlots } ch
        Channel.withoutPartial := by
  cases h : (s.channel ch).assembly with
  | none =>
    rw [State.discardPartial_of_none h, Channel.partialSlots_of_none h]
    exact (State.modChannel_of_fixed (Channel.withoutPartial_of_none h)).symm
  | some part =>
    rw [State.discardPartial_of_some h, ← Channel.withoutPartial_of_some h,
      Channel.partialSlots_of_some h]
    rfl

/-- The discarding of a partial picture after a rewrite that leaves the partial in place. -/
theorem State.discardPartial_modChannel {s : State} {ch : ChannelId} {f : Channel → Channel}
    (hf : (f (s.channel ch)).assembly = (s.channel ch).assembly) :
    (s.modChannel ch f).discardPartial ch =
      State.modChannel { s with pool := s.pool.releaseAll (s.channel ch).partialSlots } ch
        (fun c => (f c).withoutPartial) := by
  have hslots : ((s.modChannel ch f).channel ch).partialSlots = (s.channel ch).partialSlots := by
    rw [State.channel_modChannel, if_pos rfl, Channel.partialSlots, hf]; rfl
  rw [State.discardPartial_eq, hslots]
  exact State.modChannel_modChannel { s with pool := s.pool.releaseAll _ } ch f _

/-- R9: CLOSE on a channel without a partial picture. -/
theorem State.drain_of_none {s : State} {ch : ChannelId} (h : (s.channel ch).assembly = none) :
    (s.modChannel ch (fun c => { c with state := .draining })).discardPartial ch =
      { s with channels := s.channels.set ch { s.channel ch with state := .draining } } := by
  refine (State.discardPartial_of_none ?_).trans rfl
  rw [State.channel_modChannel, if_pos rfl]
  exact h

/-- R9 and R94: CLOSE on a channel with a partial picture. -/
theorem State.drain_of_some {s : State} {ch : ChannelId} {part : PartialPicture}
    (h : (s.channel ch).assembly = some part) :
    (s.modChannel ch (fun c => { c with state := .draining })).discardPartial ch = { s with
      pool := s.pool.release part.slot
      channels := s.channels.set ch { s.channel ch with
        state := .draining, assembly := none, counters := (s.channel ch).counters.lost } } := by
  rw [State.discardPartial_modChannel rfl, Channel.partialSlots_of_some h]
  exact congrArg (fun c : Channel => { s with
      pool := s.pool.release part.slot, channels := s.channels.set ch c })
    (Channel.withoutPartial_of_some (c := { s.channel ch with state := .draining }) h)

/-! ### What ABORT does to jobs and decode engines (R13, R86, R111) -/

theorem Job.isQueued_iff (j : Job) : j.isQueued = true ↔ j.state = .queued := by
  cases h : j.state <;> simp [Job.isQueued, h]

/-- R86: a RUNNING job of the channel marked abandoned; any other job as it is. -/
def Job.marked (j : Job) (ch : ChannelId) : Job :=
  match j.state with
  | .queued => j
  | .running record a => { j with state := .running record (a || decide (j.channel = ch)) }

theorem Job.marked_of_ne {j : Job} {ch : ChannelId} (h : j.channel ≠ ch) : j.marked ch = j := by
  unfold Job.marked
  split
  · rfl
  · next hs => rw [decide_eq_false h, Bool.or_false, ← hs]

theorem Job.afterAbort_eq (j : Job) (ch : ChannelId) :
    j.afterAbort ch =
      if j.channel ≠ ch ∨ j.state ≠ .queued then some (j.marked ch) else none := by
  by_cases hc : j.channel = ch
  · cases hs : j.state <;> simp [Job.afterAbort, Job.marked, hc, hs]
  · rw [Job.marked_of_ne hc]; simp [Job.afterAbort, hc]

/-- R13 and R86: ABORT leaves the jobs of other channels and the RUNNING ones. -/
theorem filterMap_afterAbort (jobs : List Job) (ch : ChannelId) :
    jobs.filterMap (fun j => j.afterAbort ch) =
      (jobs.filter (fun j => j.channel ≠ ch ∨ j.state ≠ .queued)).map (fun j => j.marked ch) := by
  rw [← List.filterMap_eq_map, List.filterMap_filter]
  refine List.filterMap_congr fun j _ => ?_
  simp [Job.afterAbort_eq]

theorem removedSources_eq (jobs : List Job) (ch : ChannelId) :
    removedSources jobs ch =
      (jobs.filter (fun j => j.channel = ch ∧ j.state = .queued ∧ j.skip = false)).filterMap
        (fun j => j.source.map (fun src => src.slot)) := by
  unfold removedSources
  congr 2
  funext j
  rw [Bool.eq_iff_iff]
  simp [Job.isQueued_iff, and_assoc]

/-- The picture of the channel that a decode engine holds. -/
def DecodeEngine.heldOf (e : DecodeEngine) (ch : ChannelId) : Option DecodedPicture :=
  match e with
  | .holding pic => if pic.channel = ch then some pic else none
  | _ => none

/-- The slot of the picture of the channel that a decode engine holds. -/
def DecodeEngine.heldSlot (e : DecodeEngine) (ch : ChannelId) : Option SlotId :=
  (e.heldOf ch).bind (fun pic => pic.source.map (fun src => src.slot))

/-- R13 and R111: a decode engine after ABORT. -/
def DecodeEngine.afterAbort (e : DecodeEngine) (ch : ChannelId) : DecodeEngine :=
  match e with
  | .idle => .idle
  | .decoding d a => .decoding d (a || decide (d.channel = ch))
  | .holding pic => if pic.channel = ch then .idle else .holding pic

/-- R13: the record of the channel once a decode engine has been aborted: a held picture was its
decode in flight. -/
def Channel.withoutHeld (c : Channel) (held : Option DecodedPicture) : Channel :=
  { c with decodeInFlight := c.decodeInFlight && held.isNone }

theorem Channel.withoutHeld_some (c : Channel) (pic : DecodedPicture) :
    c.withoutHeld (some pic) = { c with decodeInFlight := false } := by
  rw [Channel.withoutHeld, Option.isNone_some, Bool.and_false]

/-- R13 and R111: the decode unit once an engine has been aborted. -/
def DecodeUnit.abortEngine (d : DecodeUnit) (ch : ChannelId) (e : DecodeEngineId) : DecodeUnit :=
  { d with engines := d.engines.set e (d.engines[e].afterAbort ch)
           held := d.held.filter (fun x => x != e || (d.engines[e].heldOf ch).isNone) }

theorem DecodeEngine.heldOf_of_ne {pic : DecodedPicture} {ch : ChannelId} (h : pic.channel ≠ ch) :
    (DecodeEngine.holding pic).heldOf ch = none :=
  if_neg h

theorem DecodeEngine.heldOf_of_eq {pic : DecodedPicture} {ch : ChannelId} (h : pic.channel = ch) :
    (DecodeEngine.holding pic).heldOf ch = some pic :=
  if_pos h

theorem DecodeEngine.heldOf_eq_some {e : DecodeEngine} {ch : ChannelId} {pic : DecodedPicture}
    (h : e.heldOf ch = some pic) : e = .holding pic ∧ pic.channel = ch := by
  cases e with
  | idle => exact nomatch h
  | decoding entry a => exact nomatch h
  | holding held =>
    by_cases hc : held.channel = ch
    · rw [DecodeEngine.heldOf_of_eq hc] at h
      cases h
      exact ⟨rfl, hc⟩
    · rw [DecodeEngine.heldOf_of_ne hc] at h
      exact nomatch h

/-- An engine that holds no picture of the channel is marked at most. -/
theorem DecodeUnit.abortEngine_of_none {d : DecodeUnit} {ch : ChannelId} {e : DecodeEngineId}
    (h : d.engines[e].heldOf ch = none) :
    d.abortEngine ch e = { d with engines := d.engines.set e (d.engines[e].afterAbort ch) } := by
  have hheld : d.held.filter (fun x => x != e || (d.engines[e].heldOf ch).isNone) = d.held :=
    List.filter_eq_self.2 fun x _ => by rw [h]; exact Bool.or_true _
  rw [DecodeUnit.abortEngine, hheld]

theorem DecodeUnit.abortEngine_of_fixed {d : DecodeUnit} {ch : ChannelId} {e : DecodeEngineId}
    (h : d.engines[e].heldOf ch = none) (ha : d.engines[e].afterAbort ch = d.engines[e]) :
    d.abortEngine ch e = d := by
  rw [DecodeUnit.abortEngine_of_none h, ha]
  simp

/-- ABORT on an engine that holds no picture of the channel touches the decode unit alone. -/
theorem State.abortDecodeEngine_of_none {s : State} {ch : ChannelId} {e : DecodeEngineId}
    (h : s.decode.engines[e].heldOf ch = none) :
    s.abortDecodeEngine ch e = { s with decode := s.decode.abortEngine ch e } := by
  cases hx : s.decode.engines[e] with
  | idle =>
    rw [DecodeUnit.abortEngine_of_fixed h (by rw [hx]; rfl), State.abortDecodeEngine, hx]
  | decoding entry a =>
    by_cases hc : entry.channel = ch
    · rw [DecodeUnit.abortEngine_of_none h, State.abortDecodeEngine, hx]
      simp [DecodeEngine.afterAbort, hc]
    · rw [DecodeUnit.abortEngine_of_fixed h (by rw [hx]; simp [DecodeEngine.afterAbort, hc]),
        State.abortDecodeEngine, hx]
      exact if_neg (by simpa using hc)
  | holding pic =>
    have hc : pic.channel ≠ ch := by
      intro hc; rw [hx, DecodeEngine.heldOf_of_eq hc] at h; exact nomatch h
    rw [DecodeUnit.abortEngine_of_fixed h (by rw [hx]; exact if_neg hc),
      State.abortDecodeEngine, hx]
    exact if_neg (by simpa using hc)

/-- R13 and R111: ABORT on one decode engine: the held picture's slot, the engine and the channel's
decode in flight. -/
theorem State.abortDecodeEngine_eq (s : State) (ch : ChannelId) (e : DecodeEngineId) :
    s.abortDecodeEngine ch e = State.modChannel { s with
        pool := s.pool.releaseAll (s.decode.engines[e].heldSlot ch).toList
        decode := s.decode.abortEngine ch e } ch
      (fun c => c.withoutHeld (s.decode.engines[e].heldOf ch)) := by
  cases h : s.decode.engines[e].heldOf ch with
  | none =>
    rw [State.abortDecodeEngine_of_none h, DecodeEngine.heldSlot, h]
    exact (State.modChannel_of_fixed (by simp [Channel.withoutHeld])).symm
  | some pic =>
    obtain ⟨hx, hc⟩ := DecodeEngine.heldOf_eq_some h
    have hidle : (DecodeEngine.holding pic).afterAbort ch = .idle := if_pos hc
    rw [State.abortDecodeEngine, DecodeUnit.abortEngine, DecodeEngine.heldSlot, h, hx, hidle]
    simp only [hc, beq_self_eq_true, if_true, Option.isNone_some, Bool.or_false,
      Channel.withoutHeld_some, Option.bind_some]
    cases pic.source <;> rfl

/-- R13 and R111: the decode unit once both engines have been aborted. -/
def DecodeUnit.abortEngines (d : DecodeUnit) (ch : ChannelId) : DecodeUnit :=
  { d with engines := Vector.ofFn (fun e => d.engines[e].afterAbort ch)
           held := d.held.filter (fun e => (d.engines[e].heldOf ch).isNone) }

theorem DecodeUnit.abortEngine_zero_one (d : DecodeUnit) (ch : ChannelId) :
    (d.abortEngine ch 0).engines[(1 : DecodeEngineId)] = d.engines[(1 : DecodeEngineId)] := by
  simp [DecodeUnit.abortEngine]

theorem DecodeUnit.abortEngine_one_zero (d : DecodeUnit) (ch : ChannelId) :
    (d.abortEngine ch 0).abortEngine ch 1 = d.abortEngines ch := by
  rw [DecodeUnit.abortEngine, d.abortEngine_zero_one]
  simp only [DecodeUnit.abortEngine, DecodeUnit.abortEngines, List.filter_filter]
  congr 1
  · ext i hi
    match i, hi with
    | 0, _ => simp
    | 1, _ => simp
  · refine List.filter_congr fun e _ => ?_
    match e with
    | 0 => simp
    | 1 => simp

theorem SlotPool.releaseAll_releaseAll (p : SlotPool) (l₁ l₂ : List SlotId) :
    (p.releaseAll l₁).releaseAll l₂ = p.releaseAll (l₁ ++ l₂) :=
  (List.foldl_append ..).symm

/-- ABORT on a decode engine after a rewrite of the channel's record. -/
theorem State.abortDecodeEngine_modChannel (s : State) (ch : ChannelId) (f : Channel → Channel)
    (e : DecodeEngineId) :
    (s.modChannel ch f).abortDecodeEngine ch e = State.modChannel { s with
        pool := s.pool.releaseAll (s.decode.engines[e].heldSlot ch).toList
        decode := s.decode.abortEngine ch e } ch
      (fun c => (f c).withoutHeld (s.decode.engines[e].heldOf ch)) := by
  rw [State.abortDecodeEngine_eq]
  exact State.modChannel_modChannel { s with pool := s.pool.releaseAll _, decode := _ } ch f _

/-- The slots of the channel's held pictures, in the order of the engines. -/
def DecodeUnit.heldSlots (d : DecodeUnit) (ch : ChannelId) : List SlotId :=
  (List.finRange 2).filterMap (fun e => d.engines[e].heldSlot ch)

/-- No decode engine holds a picture of the channel. -/
def DecodeUnit.holdsNone (d : DecodeUnit) (ch : ChannelId) : Bool :=
  (List.finRange 2).all (fun e => (d.engines[e].heldOf ch).isNone)

theorem DecodeUnit.heldSlots_eq (d : DecodeUnit) (ch : ChannelId) :
    d.heldSlots ch = (d.engines[(0 : DecodeEngineId)].heldSlot ch).toList
      ++ (d.engines[(1 : DecodeEngineId)].heldSlot ch).toList := by
  have hrange : List.finRange 2 = [0, 1] := rfl
  simp only [DecodeUnit.heldSlots, hrange, List.filterMap_eq_flatMap_toList, List.flatMap_cons,
    List.flatMap_nil, List.append_nil]

theorem DecodeUnit.holdsNone_eq (d : DecodeUnit) (ch : ChannelId) :
    d.holdsNone ch = ((d.engines[(0 : DecodeEngineId)].heldOf ch).isNone
      && (d.engines[(1 : DecodeEngineId)].heldOf ch).isNone) := by
  simp [DecodeUnit.holdsNone, List.finRange_succ]

/-- R13 and R111: ABORT on both decode engines, after a rewrite of the channel's record. -/
theorem State.abortDecodeEngines_modChannel (s : State) (ch : ChannelId) (f : Channel → Channel) :
    (List.finRange 2).foldl (State.abortDecodeEngine ch) (s.modChannel ch f) =
      State.modChannel { s with
          pool := s.pool.releaseAll (s.decode.heldSlots ch)
          decode := s.decode.abortEngines ch } ch
        (fun c =>
          { f c with decodeInFlight := (f c).decodeInFlight && s.decode.holdsNone ch }) := by
  have hone := s.decode.abortEngine_zero_one ch
  calc
    _ = ((s.modChannel ch f).abortDecodeEngine ch 0).abortDecodeEngine ch 1 := rfl
    _ = _ := by rw [State.abortDecodeEngine_modChannel, State.abortDecodeEngine_modChannel]
    _ = _ := by
      dsimp only
      rw [hone, SlotPool.releaseAll_releaseAll, DecodeUnit.abortEngine_one_zero,
        ← DecodeUnit.heldSlots_eq]
      simp only [Channel.withoutHeld, Bool.and_assoc, ← DecodeUnit.holdsNone_eq]

/-! ### The whole of ABORT's work (R13) -/

/-- R13: the slots that ABORT frees whatever their counts, in its order: that of the partial
picture, those of the decode queue and those of the held pictures. -/
def State.abortSlots (s : State) (ch : ChannelId) : List SlotId :=
  (s.channel ch).partialSlots
    ++ (s.decode.queue.filter (fun d => d.channel == ch)).map (fun d => d.slot)
    ++ s.decode.heldSlots ch

theorem State.taking_abortSlots (s : State) (ch : ChannelId) :
    s.taking.abortSlots ch = s.abortSlots ch := by
  rw [State.abortSlots, s.taking_channel, s.taking_decode]; rfl

/-- R13: the record that ABORT leaves, before any completion. -/
def Channel.aborting (c : Channel) (holdsNone : Bool) : Channel :=
  { c.withoutPartial with
    state := .aborting, segments := [], cutPending := none, preSegmentAudio := 0
    decodeInFlight := c.decodeInFlight && holdsNone }

/-- R13: a record without its segment entries, its cut pending and its pre-segment audio bytes. -/
def Channel.withoutSegments (c : Channel) : Channel :=
  { c with segments := [], cutPending := none, preSegmentAudio := 0 }

/-- R13: what follows in ABORT once the decode engines are done with: the jobs, the rest of the
record, the small units. -/
def State.abortRest (s : State) (ch : ChannelId) : State :=
  { (s.abortJobs ch).modChannel ch Channel.withoutSegments with
    small := s.small.filter (fun u => u.channel != ch) }

/-- R13 in stages, so that each can be carried past a rewrite of the channel's record. -/
theorem State.abortWork_stages (s : State) (ch : ChannelId) :
    s.abortWork ch = ((List.finRange 2).foldl (State.abortDecodeEngine ch)
      (((s.modChannel ch (fun c => { c with state := .aborting })).discardPartial ch).abortQueue
        ch)).abortRest ch := rfl

theorem State.abortQueue_modChannel (s : State) (ch : ChannelId) (f : Channel → Channel) :
    (s.modChannel ch f).abortQueue ch = (s.abortQueue ch).modChannel ch f := rfl

theorem State.abortRest_modChannel (s : State) (ch : ChannelId) (f : Channel → Channel) :
    (s.modChannel ch f).abortRest ch = State.modChannel { s with
        pool := (removedSources s.jobs ch).foldl SlotPool.dropSource s.pool
        jobs := s.jobs.filterMap (fun j => j.afterAbort ch)
        small := s.small.filter (fun u => u.channel != ch) } ch
      (fun c => (f c).withoutSegments) :=
  State.modChannel_modChannel
    { s.abortJobs ch with small := s.small.filter (fun u => u.channel != ch) } ch f
    Channel.withoutSegments

/-- R13: ABORT's work, the completion apart, writes the pool, the decode unit, the jobs, the small
units and the channel's own record. -/
theorem State.abortWork_eq (s : State) (ch : ChannelId) :
    s.abortWork ch = State.modChannel { s with
        pool := (removedSources s.jobs ch).foldl SlotPool.dropSource
          (s.pool.releaseAll (s.abortSlots ch))
        decode := { s.decode.abortEngines ch with
          queue := s.decode.queue.filter (fun d => d.channel ≠ ch) }
        jobs := s.jobs.filterMap (fun j => j.afterAbort ch)
        small := s.small.filter (fun u => u.channel ≠ ch) } ch
      (fun c => c.aborting (s.decode.holdsNone ch)) := by
  simp only [ne_eq, decide_not]
  rw [State.abortSlots, ← SlotPool.releaseAll_releaseAll, ← SlotPool.releaseAll_releaseAll,
    State.abortWork_stages, State.discardPartial_modChannel rfl, State.abortQueue_modChannel,
    State.abortDecodeEngines_modChannel, State.abortRest_modChannel]
  rfl

/-! ### ABORT as a command (R13, R15) -/

theorem Channel.aborting_eq (c : Channel) (holdsNone : Bool) :
    c.aborting holdsNone = { c with
      state := .aborting, assembly := none, segments := [], cutPending := none, preSegmentAudio := 0
      decodeInFlight := c.decodeInFlight && holdsNone
      counters := { c.counters with
        unitsLost := if c.assembly = none then c.counters.unitsLost
          else min 4294967295 (c.counters.unitsLost + 1) } } := by
  rw [Channel.aborting, Channel.withoutPartial]
  split <;> rfl

/-! ### The statements (chapter 1) -/

/-- Settles O30: each refusal answers on the state as the directive unit finds it. -/
theorem channelDirectivesRefused : Obligations.ChannelDirectivesRefused := by
  constructor
  · intro f s hands len b override window
    have hlen : b.length = 8 := len
    have hov : bodyNat b 1 1 = override := bodyNat_byte b 1 (by omega)
    have hprofile : openProfile b s.taking =
        selectedProfile (readProfileChoice override) window := by
      rw [openProfile, hov, State.taking_windows]; rfl
    have refuse {r : Result} (h : takeOpen b s.taking = (s.taking, Answer.of r)) :
        exec (.openChannel f) s = .next (s.answered f 0x0A r .none) :=
      runDirective_of_refusal hands len codeOpen h
    refine ⟨fun h => ?_, fun hn h16 h254 => ?_, fun ch hn hin => ?_⟩
    · exact refuse (takeOpen_of_badChannel (objectNumber_firstByte_none (by omega) h))
    · have hch := objectNumber_firstByte (b := b) (ch := ⟨_, hn⟩) (by omega) rfl
      exact refuse (takeOpen_of_badOverride hch (hov ▸ readProfileChoice_bad h16 h254))
    · have hch := objectNumber_firstByte (by omega) hn
      have hnb : readProfileChoice (bodyNat b 1 1) ≠ .bad := hov ▸ readProfileChoice_ne_bad hin
      rw [← s.taking_channel ch, ← s.taking_profiles, ← s.taking_pool]
      refine ⟨fun hs => ?_, fun hs h255 hw => ?_, fun hs p hsel => ?_⟩
      · exact refuse (takeOpen_of_notClosed hch hnb hs)
      · have hnone : openProfile b s.taking = none := by rw [hprofile, h255]; exact hw
        exact refuse (takeOpen_of_noProfile hch hnb hs hnone)
      · have hp := hprofile.trans (selectedProfile_eq_some hsel)
        exact ⟨fun hv => refuse (takeOpen_of_invalidProfile hch hnb hs hp hv),
          fun hv hf => refuse (takeOpen_of_fewSlots hch hnb hs hp hv hf)⟩
  · intro f s hands len n
    have refuseClose {r : Result}
        (h : takeClose f.payload.bytes s.taking = (s.taking, Answer.of r)) :
        exec (.closeChannel f) s = .next (s.answered f 0x0B r .none) :=
      runDirective_of_refusal hands len codeClose h
    have refuseAbort {r : Result}
        (h : takeAbort f.payload.bytes s.taking = (s.taking, Answer.of r)) :
        exec (.abortChannel f) s = .next (s.answered f 0x0C r .none) :=
      runDirective_of_refusal hands len codeAbort h
    refine ⟨fun h => ?_, fun ch hn => ?_⟩
    · have hch := objectNumber_firstByte_none (by omega) h
      exact ⟨refuseClose (takeClose_of_badChannel hch), refuseAbort (takeAbort_of_badChannel hch)⟩
    · have hch := objectNumber_firstByte (by omega) hn
      rw [← s.taking_channel ch]
      exact ⟨fun hs => ⟨refuseClose (takeClose_of_closed hch hs),
          refuseAbort (takeAbort_of_closed hch hs)⟩,
        fun hs => ⟨refuseClose (takeClose_of_ending hch (.inr hs)),
          refuseAbort (takeAbort_of_aborting hch hs)⟩,
        fun hs => refuseClose (takeClose_of_ending hch (.inl hs))⟩

/-- Settles O31: the slots are those that `SlotPool.takeMany_spec` takes, and rendition `r` of the
profile gets the `r`th of them. -/
theorem openTaken : Obligations.OpenTaken := by
  intro f s ch p hands len b override course window v hn hs hsel hv hv4 hfree
  have hlen : b.length = 8 := len
  have hov : bodyNat b 1 1 = override := bodyNat_byte b 1 (by omega)
  have hin : override < 16 ∨ override = 255 := by omega
  have hch : objectNumber 32 (bodyNat b 0 1) = some ch := objectNumber_firstByte (by omega) hn
  have hp : openProfile b s.taking = some p := by
    rw [openProfile, hov, State.taking_windows]; exact selectedProfile_eq_some hsel
  have taken := takeOpen_of_slots hch (hov ▸ readProfileChoice_ne_bad hin)
    (by rwa [s.taking_channel]) hp (by rwa [s.taking_profiles])
    (by rwa [s.taking_profiles, s.taking_pool])
  obtain ⟨slots_eq, free_eq, reserved_eq, slot_eq⟩ :=
    SlotPool.takeMany_spec v .reference s.pool (by omega)
  refine ⟨(SlotPool.takeMany v .reference s.pool).2,
    List.zipWith RenditionContext.atOpen s.profiles[p].renditions.toList (s.pool.free.take v),
    ?_, free_eq, reserved_eq, slot_eq, ?_, fun r hr => ?_⟩
  · obtain ⟨i, hi, -⟩ := s.taking_spec
    rw [← slots_eq]
    refine (runDirective_of_answer hands len codeOpen taken).trans ?_
    rw [hi]
    rfl
  · rw [List.length_zipWith, List.length_take, Vector.length_toList]
    omega
  · have hslot : r.val < s.pool.free.length := by omega
    refine ⟨s.pool.free[r.val], List.getElem?_eq_getElem hslot, ?_⟩
    rw [getElem?_contextsAtOpen, List.getElem?_take_of_lt hr, List.getElem?_eq_getElem hslot]
    rfl

/-- Settles O32: the record becomes DRAINING, then its partial picture is discarded. -/
theorem closeTaken : Obligations.CloseTaken := by
  intro f s ch hands len hn hs
  have hch := objectNumber_firstByte (by omega) hn
  have closed := runDirective_of_answer hands len codeClose
    (takeClose_of_running hch (by rwa [s.taking_channel]))
  refine ⟨fun hnone => closed.trans ?_, fun part hsome => closed.trans ?_⟩
  · rw [State.drain_of_none (by rwa [s.taking_channel]), s.taking_channel, s.taking_channels]
    rfl
  · rw [State.drain_of_some (part := part) (by rwa [s.taking_channel]), s.taking_channel,
      s.taking_channels, s.taking_pool]
    rfl

/-- Settles O33: ABORT's work is `State.abortWork_eq`; whether the completion follows is decided on
the state it leaves. -/
theorem abortTaken : Obligations.AbortTaken := by
  intro f s ch hands len hn hs c heldBy freed sources drop pool aborting left onEngine room
  have hch := objectNumber_firstByte (by omega) hn
  have aborted := runDirective_of_answer hands len codeAbort
    (takeAbort_of_live hch (by rwa [s.taking_channel]))
  have hpool : (removedSources s.jobs ch).foldl SlotPool.dropSource
      (s.pool.releaseAll (s.abortSlots ch)) = pool := by
    rw [removedSources_eq]; rfl
  have hjobs : s.jobs.filterMap (fun j => j.afterAbort ch) = left.jobs := filterMap_afterAbort _ _
  have hrecord : s.channels[ch].aborting (s.decode.holdsNone ch) = aborting :=
    Channel.aborting_eq _ _
  have hdecode : { s.decode.abortEngines ch with
      queue := s.decode.queue.filter (fun d => d.channel ≠ ch) } = left.decode := rfl
  have hleft : s.taking.abortWork ch = left := by
    rw [State.abortWork_eq, State.modChannel]
    dsimp only
    rw [s.taking_abortSlots, s.taking_channels, s.taking_pool, s.taking_jobs, s.taking_decode,
      s.taking_small, hpool, hjobs, hrecord, hdecode]
  have hchannel : left.channel ch = aborting := by
    simp [State.channel, left]
  have hegress : left.egress = s.egress := s.taking_egress
  have hdone : (left.channel ch).abortDone = true ↔ ¬ onEngine := by
    rw [hchannel]; exact Channel.abortDone_iff_not rfl
  have hset (x : Channel) : left.channels.set ch x = s.channels.set ch x :=
    Vector.set_set _ _
  rw [hleft] at aborted
  refine ⟨fun h => aborted.trans ?_, fun hoff hroom => aborted.trans ?_⟩
  · have hnot : ¬ (left.channel ch).abortDone = true ∨ ¬ room := by
      rw [hdone, not_not]; exact h
    rw [State.finishAbort_of_not_due (by rw [hegress]; exact hnot)]
    rfl
  · rw [State.finishAbort_of_due (hdone.2 hoff) (by rw [hegress]; exact hroom),
      State.endChannel_eq, hchannel, hegress, hset]
    rfl

/-- Settles O35: the two cases of the acceptance, and the two of the discarding. -/
theorem picturesAcceptedOrLost : Obligations.PicturesAcceptedOrLost := by
  refine ⟨fun s ch slot time flags => ⟨fun late => ?_, fun inTime => ?_⟩, fun s ch =>
    ⟨State.discardPartial_of_none, fun part h => State.discardPartial_of_some h⟩⟩
  · exact State.acceptPicture_of_late ((Channel.pictureLate_adoptBase _ _).2 late) slot flags
  · exact (State.acceptPicture_of_inTime
      (mt (Channel.pictureLate_adoptBase _ _).1 inTime) slot flags).trans rfl

/-- Settles O59: each completion takes place exactly when its condition and the room are there. -/
theorem channelsComplete : Obligations.ChannelsComplete := by
  intro s ch c u room ended drained aborted
  have hdrained : u.drained ch = true ↔ drained := by
    rw [State.drained_iff]; simp [u, drained, c]
  have haborted : (u.channel ch).abortDone = true ↔ aborted := by
    rw [Channel.abortDone_iff]; simp [u, aborted, c]
  have hroom : 64 ≤ 268435456 - (u.egress.reservedBytes + u.egress.queuedBytes) ↔ room := by
    simp [u, room]
  have hended (outcome : ChannelOutcome) :
      (u.endChannel ch outcome).raise ((u.channel ch).closedEvent ch outcome) = ended outcome := by
    simp [State.endChannel_eq, u, ended, c]; rfl
  rw [← hdrained, ← haborted, ← hroom]
  refine ⟨fun hd hr => ?_, exec_drainCompletion_of_not_due, fun ha hr => ?_, fun h => ?_⟩
  · rw [exec_drainCompletion_of_due hd hr, hended]
  · rw [exec_abortCompletion, State.finishAbort_of_due ha hr, ← hended]; rfl
  · rw [exec_abortCompletion, State.finishAbort_of_not_due h]; rfl

end Sys2Proof.Machine

/-! SUPPORT. Profiles, link settings and course windows (chapter 2): the window that is chosen for a
course number, the field checks of a profile, LOAD PROFILE, LOAD WINDOW and the six queries case by
case. -/

namespace Sys2Proof.Machine

/-! ### The chosen window (R29) -/

theorem Window.hits_iff (w : Window) (course : BitVec 24) :
    w.hits course = true ↔ w.active = true ∧ AgreeWhereZero course w.value w.mask := by
  rw [Window.hits, Bool.and_eq_true, agreeOutside_iff]

/-- The windows searched are W1 to W6, in order. -/
theorem getElem_tail_windows (ws : Vector Window 7) (n : Nat) (h : n < ws.toList.tail.length) :
    ws.toList.tail[n] = ws[n + 1]'(by simp at h; omega) := by
  simp

theorem chosenWindow_of_hit {ws : Vector Window 7} {course : BitVec 24} {i : WindowId}
    (h0 : i ≠ 0) (hit : ws[i].hits course = true)
    (below : ∀ j : WindowId, j ≠ 0 → j < i → ws[j].hits course = false) :
    chosenWindow ws course = ws[i] := by
  have hpos : 0 < i.val := Nat.pos_of_ne_zero fun h => h0 (Fin.ext h)
  have found : ws.toList.tail.find? (fun w => w.hits course) = some ws[i] := by
    refine List.find?_eq_some_iff_getElem.2 ⟨hit, i.val - 1, by simp; omega, ?_, fun n hn => ?_⟩
    · simp only [getElem_tail_windows, Nat.sub_add_cancel hpos, Fin.getElem_fin]
    · have hlt : n + 1 < i.val := by omega
      have earlier := below ⟨n + 1, by omega⟩ (by simp [Fin.ext_iff]) hlt
      rw [Fin.getElem_fin] at earlier
      rw [getElem_tail_windows, earlier]; rfl
  rw [chosenWindow, found]

theorem chosenWindow_of_none {ws : Vector Window 7} {course : BitVec 24}
    (h : ∀ i : WindowId, i ≠ 0 → ws[i].hits course = false) :
    chosenWindow ws course = ws[0] := by
  have missed : ws.toList.tail.find? (fun w => w.hits course) = none := by
    refine List.find?_eq_none.2 fun w hw => ?_
    obtain ⟨n, hn, rfl⟩ := List.getElem_of_mem hw
    have miss := h ⟨n + 1, by simp at hn; omega⟩ (by simp [Fin.ext_iff])
    rw [Fin.getElem_fin] at miss
    rw [getElem_tail_windows, miss]; exact Bool.false_ne_true
  rw [chosenWindow, missed]

/-- Settles O15: the search of W1 to W6 in order meets the lowest-numbered match first. -/
theorem chosenWindow_isLowestMatch : Obligations.ChosenWindow := by
  intro ws course
  have misses (i : WindowId) : ws[i].hits course = false ↔
      ¬ (ws[i].active = true ∧ AgreeWhereZero course ws[i].value ws[i].mask) := by
    rw [← Window.hits_iff, Bool.not_eq_true]
  exact ⟨fun i h0 active agrees below =>
      chosenWindow_of_hit h0 ((Window.hits_iff _ _).2 ⟨active, agrees⟩)
        fun j hj hlt => (misses j).2 (below j hj hlt),
    fun none => chosenWindow_of_none fun i hi => (misses i).2 (none i hi)⟩

/-! ### The first failing field of a list of checks -/

theorem inRange_iff (lo hi x : Nat) : inRange lo hi x = true ↔ lo ≤ x ∧ x ≤ hi := by
  simp [inRange]

theorem isFlag_iff (x : Nat) : isFlag x = true ↔ x ≤ 1 :=
  decide_eq_true_iff

/-- A list of checks finds the first failing field among the numbers from `lo` up to `hi`. -/
def ChecksSpan (ok : Nat → Prop) (checks : List (Nat × Bool)) (lo hi : Nat) : Prop :=
  ∀ n, firstBad checks = some n ↔ lo ≤ n ∧ n < hi ∧ ¬ ok n ∧ ∀ m, lo ≤ m → m < n → ok m

theorem firstBad_cons_false (n : Nat) (l : List (Nat × Bool)) :
    firstBad ((n, false) :: l) = some n := rfl

theorem firstBad_append (l₁ l₂ : List (Nat × Bool)) :
    firstBad (l₁ ++ l₂) = (firstBad l₁).or (firstBad l₂) := by
  rw [firstBad, List.find?_append, Option.map_or]; rfl

section ChecksSpan
variable {ok : Nat → Prop} {l l₁ l₂ : List (Nat × Bool)} {lo mid hi : Nat}

/-- No check is made of fields that cannot fail. -/
theorem ChecksSpan.nil (h : ∀ n, lo ≤ n → n < hi → ok n) : ChecksSpan ok [] lo hi := fun n =>
  ⟨nofun, fun ⟨hlo, hhi, bad, _⟩ => absurd (h n hlo hhi) bad⟩

/-- A field is one whose check passes exactly when it is in its range. -/
theorem ChecksSpan.one {b : Bool} (h : b = true ↔ ok lo) : ChecksSpan ok [(lo, b)] lo (lo + 1) := by
  intro n
  cases b with
  | true =>
    have holds : ok lo := h.1 rfl
    refine ⟨nofun, fun ⟨hlo, hhi, bad, _⟩ => absurd ?_ bad⟩
    rwa [show n = lo by omega]
  | false =>
    have fails : ¬ ok lo := fun hok => Bool.false_ne_true (h.2 hok)
    rw [firstBad_cons_false, Option.some_inj]
    constructor
    · rintro rfl
      exact ⟨le_refl _, by omega, fails, fun m hm hlt => absurd hlt (by omega)⟩
    · rintro ⟨hlo, hhi, -, -⟩
      omega

/-- When every check passes, every field of the span is in its range. -/
theorem ChecksSpan.none_iff (h : ChecksSpan ok l lo hi) :
    firstBad l = none ↔ ∀ n, lo ≤ n → n < hi → ok n := by
  constructor
  · intro none n
    induction n using Nat.strong_induction_on with
    | _ n ih =>
      intro hlo hhi
      by_contra bad
      have found := (h n).2 ⟨hlo, hhi, bad, fun m hm hlt => ih m hlt hm (hlt.trans hhi)⟩
      exact nomatch none.symm.trans found
  · intro all
    cases e : firstBad l with
    | none => rfl
    | some n =>
      obtain ⟨hlo, hhi, bad, -⟩ := (h n).1 e
      exact absurd (all n hlo hhi) bad

theorem ChecksSpan.append (h₁ : ChecksSpan ok l₁ lo mid) (h₂ : ChecksSpan ok l₂ mid hi)
    (hlo : lo ≤ mid) (hhi : mid ≤ hi) : ChecksSpan ok (l₁ ++ l₂) lo hi := by
  intro n
  rw [firstBad_append]
  cases e : firstBad l₁ with
  | none =>
    have below := h₁.none_iff.1 e
    rw [Option.none_or, h₂ n]
    constructor
    · rintro ⟨hmid, hn, bad, before⟩
      refine ⟨hlo.trans hmid, hn, bad, fun m hm hlt => ?_⟩
      rcases Nat.lt_or_ge m mid with h | h
      · exact below m hm h
      · exact before m h hlt
    · rintro ⟨hm, hn, bad, before⟩
      have hmid : mid ≤ n := Nat.le_of_not_lt fun h => bad (below n hm h)
      exact ⟨hmid, hn, bad, fun m h hlt => before m (hlo.trans h) hlt⟩
  | some k =>
    obtain ⟨hk, hkmid, badk, beforek⟩ := (h₁ k).1 e
    rw [Option.some_or, Option.some_inj]
    constructor
    · rintro rfl
      exact ⟨hk, hkmid.trans_le hhi, badk, beforek⟩
    · rintro ⟨hn, -, bad, before⟩
      by_contra hne
      rcases Nat.lt_or_gt_of_ne hne with h | h
      · exact badk (before k hk h)
      · exact bad (beforek n hn h)

theorem ChecksSpan.cons {b : Bool} (h : b = true ↔ ok lo) (hl : ChecksSpan ok l (lo + 1) hi)
    (hhi : lo + 1 ≤ hi := by omega) : ChecksSpan ok ((lo, b) :: l) lo hi :=
  (ChecksSpan.one h).append hl (Nat.le_succ lo) hhi

end ChecksSpan

/-! ### The field checks of a profile (R23, section 2.1) -/

/-- Section 2.1: the range of a rendition's field `k`, of its ten in order. -/
def RenditionSpec.FieldOk (x : RenditionSpec) (k : Nat) : Prop :=
  match k with
  | 0 => 160 ≤ x.width ∧ x.width ≤ 1920 ∧ x.width % 16 = 0
  | 1 => 96 ≤ x.height ∧ x.height ≤ 1080 ∧ x.height % 8 = 0
  | 2 => 64000 ≤ x.bitrate ∧ x.bitrate ≤ 20000000
  | 3 => 1 ≤ x.window ∧ x.window ≤ 8
  | 4 => x.qnom ≤ 63
  | 5 => x.qmin ≤ x.qnom
  | 6 => x.qnom ≤ x.qmax ∧ x.qmax ≤ 63
  | 7 => x.gain ≤ 15
  | 8 => x.keyOffset ≤ 15
  | _ => 16 ≤ x.cap ∧ x.cap ≤ 1024

/-- Section 2.1: the range of a profile's field number `n`; those of renditions from V up are free. -/
def Profile.FieldOk (p : Profile) (n : Nat) : Prop :=
  match n with
  | 2 => 1 ≤ p.count ∧ p.count ≤ 4
  | 3 => p.audioEnabled ≤ 1
  | 4 => 48000 ≤ p.segmentTicks ∧ p.segmentTicks ≤ 480000
  | 5 => 24000 ≤ p.minimumTicks ∧ p.minimumTicks ≤ p.segmentTicks
  | 6 => 400 ≤ p.intervalHint ∧ p.intervalHint ≤ 48000
  | 47 => 256 ≤ p.initialGain ∧ p.initialGain ≤ 16384
  | 48 => p.initialGain ≤ p.maximumGain ∧ p.maximumGain ≤ 16384
  | 49 => 1 ≤ p.high ∧ p.high ≤ 32767
  | 50 => p.low < p.high
  | 51 => 1 ≤ p.quietRun ∧ p.quietRun ≤ 255
  | _ => ∀ r : Fin 4, r.val = (n - 7) / 10 → r.val < p.count →
    (p.renditions[r]).FieldOk ((n - 7) % 10)

/-- The number of field `k` of rendition `r` is 7 + 10r + k. -/
theorem Profile.fieldOk_rendition (p : Profile) (r : Fin 4) {k : Nat} (hk : k < 10) :
    p.FieldOk (7 + 10 * r.val + k) ↔ (r.val < p.count → (p.renditions[r]).FieldOk k) := by
  have hdiv : (7 + 10 * r.val + k - 7) / 10 = r.val := by omega
  have hmod : (7 + 10 * r.val + k - 7) % 10 = k := by omega
  have hr := r.isLt
  unfold Profile.FieldOk
  split
  case h_11 =>
    rw [hdiv, hmod]
    exact ⟨fun h => h r rfl, fun h i hi => by rw [Fin.ext hi]; exact h⟩
  all_goals omega

theorem RenditionSpec.inRange_iff (x : RenditionSpec) : x.InRange ↔ ∀ k < 10, x.FieldOk k := by
  constructor
  · rintro ⟨_, _, _, _, _, _, _, _, _, _, _, _, _, _, _, _, _, _⟩ k hk
    unfold RenditionSpec.FieldOk
    split <;> omega
  · intro h
    obtain ⟨w₁, w₂, w₃⟩ := h 0 (by omega)
    obtain ⟨h₁, h₂, h₃⟩ := h 1 (by omega)
    obtain ⟨b₁, b₂⟩ := h 2 (by omega)
    obtain ⟨d₁, d₂⟩ := h 3 (by omega)
    obtain ⟨q₁, q₂⟩ := h 6 (by omega)
    obtain ⟨c₁, c₂⟩ := h 9 (by omega)
    exact ⟨w₁, w₂, w₃, h₁, h₂, h₃, b₁, b₂, d₁, d₂, h 4 (by omega), h 5 (by omega), q₁, q₂,
      h 7 (by omega), h 8 (by omega), c₁, c₂⟩

/-- Section 2.1: a record is in range when each of its fields 2 to 51 is. -/
theorem Profile.inRange_iff (p : Profile) : p.InRange ↔ ∀ n, 2 ≤ n → n < 52 → p.FieldOk n := by
  constructor
  · rintro ⟨_, _, _, _, _, _, _, _, _, renditions, _, _, _, _, _, _, _, _⟩ n h2 h52
    unfold Profile.FieldOk
    split
    case h_11 =>
      intro r _ hr
      exact (RenditionSpec.inRange_iff _).1 (renditions r hr) _ (Nat.mod_lt _ (by omega))
    all_goals omega
  · intro h
    obtain ⟨v₁, v₂⟩ := h 2 (by omega) (by omega)
    obtain ⟨t₁, t₂⟩ := h 4 (by omega) (by omega)
    obtain ⟨m₁, m₂⟩ := h 5 (by omega) (by omega)
    obtain ⟨i₁, i₂⟩ := h 6 (by omega) (by omega)
    obtain ⟨g₁, _⟩ := h 47 (by omega) (by omega)
    obtain ⟨x₁, x₂⟩ := h 48 (by omega) (by omega)
    obtain ⟨p₁, p₂⟩ := h 49 (by omega) (by omega)
    obtain ⟨r₁, r₂⟩ := h 51 (by omega) (by omega)
    refine ⟨v₁, v₂, h 3 (by omega) (by omega), t₁, t₂, m₁, m₂, i₁, i₂, fun r hr => ?_, g₁, x₁, x₂,
      p₁, p₂, h 50 (by omega) (by omega), r₁, r₂⟩
    exact (RenditionSpec.inRange_iff _).2 fun k hk =>
      (p.fieldOk_rendition r hk).1 (h _ (by omega) (by omega)) hr

/-- R23: the checks of a rendition are those of its ten fields. -/
theorem RenditionSpec.checksSpan (x : RenditionSpec) (r : Nat) {ok : Nat → Prop}
    (h : ∀ k < 10, (ok (7 + 10 * r + k) ↔ x.FieldOk k)) :
    ChecksSpan ok (x.checks r) (7 + 10 * r) (7 + 10 * (r + 1)) := by
  have field {k : Nat} {b : Bool} (hk : k < 10) (hb : b = true ↔ x.FieldOk k) :
      b = true ↔ ok (7 + 10 * r + k) := hb.trans (h k hk).symm
  refine .cons (field (k := 0) (by omega) ?_) (.cons (field (k := 1) (by omega) ?_)
    (.cons (field (k := 2) (by omega) ?_) (.cons (field (k := 3) (by omega) ?_)
    (.cons (field (k := 4) (by omega) ?_) (.cons (field (k := 5) (by omega) ?_)
    (.cons (field (k := 6) (by omega) ?_) (.cons (field (k := 7) (by omega) ?_)
    (.cons (field (k := 8) (by omega) ?_) (.one (field (k := 9) (by omega) ?_))))))))))
  all_goals simp [inRange, RenditionSpec.FieldOk, and_assoc]

/-- R23: the checks of the renditions below V, from rendition `r` on; those from V up are free. -/
theorem checksSpan_renditions {ok : Nat → Prop} (xs : List RenditionSpec) :
    ∀ v r : Nat, (∀ (i : Nat) (hi : i < xs.length), ∀ k < 10,
      (ok (7 + 10 * (r + i) + k) ↔ (i < v → xs[i].FieldOk k))) →
    ChecksSpan ok (((xs.take v).zipIdx r).flatMap (fun x => x.1.checks x.2))
      (7 + 10 * r) (7 + 10 * (r + xs.length)) := by
  induction xs with
  | nil => exact fun v r _ => by simpa using ChecksSpan.nil (by omega)
  | cons x xs ih =>
    intro v r h
    cases v with
    | zero =>
      refine ChecksSpan.nil fun n hlo hhi => ?_
      have free := (h ((n - 7) / 10 - r) (by omega) ((n - 7) % 10) (Nat.mod_lt _ (by omega))).2
        (fun hlt => absurd hlt (Nat.not_lt_zero _))
      rwa [show 7 + 10 * (r + ((n - 7) / 10 - r)) + (n - 7) % 10 = n by omega] at free
    | succ v =>
      have first : ChecksSpan ok (x.checks r) (7 + 10 * r) (7 + 10 * (r + 1)) :=
        x.checksSpan r fun k hk => (h 0 (by simp) k hk).trans (by simp)
      have rest := ih v (r + 1) fun i hi k hk => by
        simpa [show r + 1 + i = r + (i + 1) by omega] using
          h (i + 1) (Nat.succ_lt_succ hi) k hk
      rw [show r + 1 + xs.length = r + (x :: xs).length by simp; omega] at rest
      exact first.append rest (by omega) (by simp)

/-- R23: the checks of a record find its first field that is not in range. -/
theorem Profile.checksSpan (p : Profile) : ChecksSpan p.FieldOk p.checks 2 52 := by
  have head : ChecksSpan p.FieldOk
      [(2, inRange 1 4 p.count), (3, isFlag p.audioEnabled),
       (4, inRange 48000 480000 p.segmentTicks), (5, inRange 24000 p.segmentTicks p.minimumTicks),
       (6, inRange 400 48000 p.intervalHint)] 2 7 :=
    .cons (Machine.inRange_iff _ _ _) (.cons (isFlag_iff _) (.cons (Machine.inRange_iff _ _ _)
      (.cons (Machine.inRange_iff _ _ _) (.one (Machine.inRange_iff _ _ _)))))
  have middle : ChecksSpan p.FieldOk
      ((p.renditions.toList.take p.count).zipIdx.flatMap (fun x => x.1.checks x.2)) 7 47 :=
    have renditions := checksSpan_renditions p.renditions.toList p.count 0 fun i hi k hk => by
      have h4 : i < 4 := by simpa using hi
      simpa using p.fieldOk_rendition ⟨i, h4⟩ hk
    by simpa using renditions
  have tail : ChecksSpan p.FieldOk
      [(47, inRange 256 16384 p.initialGain), (48, inRange p.initialGain 16384 p.maximumGain),
       (49, inRange 1 32767 p.high), (50, decide (p.low < p.high)),
       (51, inRange 1 255 p.quietRun)] 47 52 :=
    .cons (Machine.inRange_iff _ _ _) (.cons (Machine.inRange_iff _ _ _)
      (.cons (Machine.inRange_iff _ _ _) (.cons decide_eq_true_iff
        (.one (Machine.inRange_iff _ _ _)))))
  exact (head.append middle (by omega) (by omega)).append tail (by omega) (by omega)

theorem Profile.firstBad_eq_none_iff (p : Profile) : p.firstBad = none ↔ p.InRange :=
  p.checksSpan.none_iff.trans p.inRange_iff.symm

/-- Settles O17: the checks span the field numbers 2 to 51. -/
theorem profileFieldChecks : Obligations.ProfileFieldChecks := by
  intro p rendition passes
  refine ⟨p.firstBad_eq_none_iff, fun n => ?_⟩
  have span : p.firstBad = some n ↔
      2 ≤ n ∧ n < 52 ∧ ¬ p.FieldOk n ∧ ∀ m, 2 ≤ m → m < n → p.FieldOk m := p.checksSpan n
  rw [← Nat.lt_succ_iff (n := 51)]
  exact span

/-! ### Directives that name an object by their first byte -/

@[simp] theorem State.taking_hold (s : State) : s.taking.hold = s.hold := by
  obtain ⟨i, h, -⟩ := s.taking_spec; rw [h]
@[simp] theorem State.taking_markers (s : State) : s.taking.markers = s.markers := by
  obtain ⟨i, h, -⟩ := s.taking_spec; rw [h]
@[simp] theorem State.taking_matchFlags (s : State) : s.taking.matchFlags = s.matchFlags := by
  obtain ⟨i, h, -⟩ := s.taking_spec; rw [h]
@[simp] theorem State.taking_settings (s : State) : s.taking.settings = s.settings := by
  obtain ⟨i, h, -⟩ := s.taking_spec; rw [h]
@[simp] theorem State.taking_faults (s : State) : s.taking.faults = s.faults := by
  obtain ⟨i, h, -⟩ := s.taking_spec; rw [h]
@[simp] theorem State.taking_encode (s : State) : s.taking.encode = s.encode := by
  obtain ⟨i, h, -⟩ := s.taking_spec; rw [h]
@[simp] theorem State.taking_ingestLink (s : State) :
    s.taking.ingest.link = s.ingest.link := by
  obtain ⟨i, h, hlink, -⟩ := s.taking_spec; rw [h]; exact hlink
@[simp] theorem State.taking_ingestCounters (s : State) :
    s.taking.ingest.counters = s.ingest.counters := by
  obtain ⟨i, h, -, hcounters, -⟩ := s.taking_spec; rw [h]; exact hcounters

/-- The object of any kind that the first byte of a body names. -/
theorem objectNumber_byte {m : Nat} {b : List Byte} {i : Fin m} (hl : 0 < b.length)
    (h : (byteAt b 0).toNat = i.val) : objectNumber m (bodyNat b 0 1) = some i := by
  rw [bodyNat_byte b 0 hl, h]; exact objectNumber_of_lt i.isLt

theorem objectNumber_byte_none {m : Nat} {b : List Byte} (hl : 0 < b.length)
    (h : m ≤ (byteAt b 0).toNat) : objectNumber m (bodyNat b 0 1) = none := by
  rw [bodyNat_byte b 0 hl]; exact objectNumber_of_le h

theorem firstBad_cons (n : Nat) (b : Bool) (l : List (Nat × Bool)) :
    firstBad ((n, b) :: l) = if b = true then firstBad l else some n := by
  cases b <;> rfl

/-! ### The queries (R17, R27, R33, R57, R102, R154) -/

section Queries
variable {b : List Byte} (s : State)

theorem takeReadProfile_of_number {p : ProfileId} (h : objectNumber 16 (bodyNat b 0 1) = some p) :
    takeReadProfile b s = (s, Answer.doneWith (.profile p s.profiles[p])) := by
  rw [takeReadProfile, h]

theorem takeReadProfile_of_none (h : objectNumber 16 (bodyNat b 0 1) = none) :
    takeReadProfile b s = (s, Answer.of (.badField 0)) := by
  rw [takeReadProfile, h]

theorem takeReadWindow_of_number {w : WindowId} (h : objectNumber 7 (bodyNat b 0 1) = some w) :
    takeReadWindow b s = (s, Answer.doneWith (.window w (shownWindow w s.windows[w]))) := by
  rw [takeReadWindow, h]

theorem takeReadWindow_of_none (h : objectNumber 7 (bodyNat b 0 1) = none) :
    takeReadWindow b s = (s, Answer.of (.badField 0)) := by
  rw [takeReadWindow, h]

theorem takeReadMarker_of_number {m : MarkerId} (h : objectNumber 4 (bodyNat b 0 1) = some m) :
    takeReadMarker b s = (s, Answer.doneWith (.marker m s.markers[m])) := by
  rw [takeReadMarker, h]

theorem takeReadMarker_of_none (h : objectNumber 4 (bodyNat b 0 1) = none) :
    takeReadMarker b s = (s, Answer.of (.badField 0)) := by
  rw [takeReadMarker, h]

theorem takeQueryChannel_of_number {ch : ChannelId}
    (h : objectNumber 32 (bodyNat b 0 1) = some ch) :
    takeQueryChannel b s = (s, Answer.doneWith (.channel (s.channel ch).status)) := by
  rw [takeQueryChannel, h]

theorem takeQueryChannel_of_none (h : objectNumber 32 (bodyNat b 0 1) = none) :
    takeQueryChannel b s = (s, Answer.of (.badField 0)) := by
  rw [takeQueryChannel, h]

end Queries

/-- R106: an engine is busy unless it is IDLE. -/
theorem DecodeEngine.isBusy_eq (e : DecodeEngine) : e.isBusy = (e != .idle) := by
  cases e <;> simp [DecodeEngine.isBusy]

theorem EncodeEngine.isBusy_eq (e : EncodeEngine) : e.isBusy = (e != .idle) := by
  cases e <;> simp [EncodeEngine.isBusy]

/-- R154: the status shown does not depend on the query's own credit. -/
theorem State.taking_partStatus (s : State) : s.taking.partStatus = s.partStatus := by
  simp [State.partStatus]

/-- R148: a query answers DONE with data and changes nothing. -/
theorem runDirective_of_data {s : State} {f : DirectiveFrame} {n : Nat} {d : ReplyData}
    {act : List Byte → State → State × Answer} (h : s.Hands f)
    (hl : f.payload.bytes.length = n) (code : Byte)
    (ha : act f.payload.bytes s.taking = (s.taking, Answer.doneWith d)) :
    runDirective code n act f s = .next (s.answered f code .done d) :=
  runDirective_of_answer h hl code ha

/-- Settles O26: each query's data are read from the state as the directive unit finds it, which
shows the same. -/
theorem queriesAnswerAndChangeNothing : Obligations.QueriesAnswerAndChangeNothing := by
  intro f s hands len n
  have hlen : 0 < f.payload.bytes.length := by omega
  refine ⟨?_, ?_, fun p hn => ?_, fun hn => ?_, fun w hn => ?_, fun hn => ?_, fun m hn => ?_,
    fun hn => ?_, fun ch hn => ?_, fun hn => ?_⟩
  · have shown := runDirective_of_data hands len codeQueryPart (act := takeQueryPart) rfl
    rw [State.taking_partStatus, State.partStatus, funext DecodeEngine.isBusy_eq,
      funext EncodeEngine.isBusy_eq] at shown
    exact shown
  · have shown := runDirective_of_data hands len codeReadFaultLog (act := takeReadFaultLog) rfl
    rw [State.taking_faults] at shown
    exact shown
  · rw [← s.taking_profiles]
    exact runDirective_of_data hands len codeReadProfile
      (takeReadProfile_of_number _ (objectNumber_byte hlen hn))
  · exact runDirective_of_refusal hands len codeReadProfile
      (takeReadProfile_of_none _ (objectNumber_byte_none hlen hn))
  · rw [← s.taking_windows]
    exact runDirective_of_data hands len codeReadWindow
      (takeReadWindow_of_number _ (objectNumber_byte hlen hn))
  · exact runDirective_of_refusal hands len codeReadWindow
      (takeReadWindow_of_none _ (objectNumber_byte_none hlen hn))
  · rw [← s.taking_markers]
    exact runDirective_of_data hands len codeReadMarker
      (takeReadMarker_of_number _ (objectNumber_byte hlen hn))
  · exact runDirective_of_refusal hands len codeReadMarker
      (takeReadMarker_of_none _ (objectNumber_byte_none hlen hn))
  · rw [← s.taking_channel]
    exact runDirective_of_data hands len codeQueryChannel
      (takeQueryChannel_of_number _ (objectNumber_byte hlen hn))
  · exact runDirective_of_refusal hands len codeQueryChannel
      (takeQueryChannel_of_none _ (objectNumber_byte_none hlen hn))

/-! ### LOAD WINDOW (R31) -/

theorem readProfileChoice_ne_bad_iff (x : Nat) :
    readProfileChoice x ≠ .bad ↔ x < 16 ∨ x = 255 := by
  refine ⟨fun h => ?_, readProfileChoice_ne_bad⟩
  by_contra out
  rw [readProfileChoice_eq, if_neg (by omega), dif_neg (by omega)] at h
  exact h rfl

/-- R31: the order of the checks after the window number: the active field, but of W0, then the
profile index, then the class. -/
theorem windowBad_eq {b : List Byte} (hl : 4 ≤ b.length) (isDefault : Bool) :
    windowBad isDefault b =
      if isDefault = true ∨ (byteAt b 1).toNat ≤ 1 then
        if (byteAt b 2).toNat < 16 ∨ (byteAt b 2).toNat = 255 then
          if (byteAt b 3).toNat ≤ 3 then none else some 5
        else some 4
      else some 1 := by
  have active : (isDefault || isFlag (bodyNat b 1 1)) = true ↔
      isDefault = true ∨ (byteAt b 1).toNat ≤ 1 := by
    rw [Bool.or_eq_true, isFlag_iff, bodyNat_byte b 1 (by omega)]
  have profile : (readProfileChoice (bodyNat b 2 1) != .bad) = true ↔
      (byteAt b 2).toNat < 16 ∨ (byteAt b 2).toNat = 255 := by
    rw [bne_iff_ne, readProfileChoice_ne_bad_iff, bodyNat_byte b 2 (by omega)]
  have cls : inRange 0 3 (bodyNat b 3 1) = true ↔ (byteAt b 3).toNat ≤ 3 := by
    rw [Machine.inRange_iff, bodyNat_byte b 3 (by omega)]; omega
  simp only [windowBad, firstBad_cons, active, profile, cls]
  rfl

section LoadWindow
variable {b : List Byte} {s : State} {w : WindowId}

theorem takeLoadWindow_of_badNumber (h : objectNumber 7 (bodyNat b 0 1) = none) :
    takeLoadWindow b s = (s, Answer.of (.badField 0)) := by
  rw [takeLoadWindow, h]

variable (hw : objectNumber 7 (bodyNat b 0 1) = some w)
include hw

theorem takeLoadWindow_of_badField {n : Nat} (h : windowBad (w == 0) b = some n) :
    takeLoadWindow b s = (s, Answer.of (.badField n)) := by
  simp only [takeLoadWindow, hw, h]

theorem takeLoadWindow_of_good (h : windowBad (w == 0) b = none) :
    takeLoadWindow b s =
      ({ s with windows := s.windows.set w (storedWindow w s.windows[w] b) }, Answer.of .done) := by
  simp only [takeLoadWindow, hw, h]

end LoadWindow

/-- R166: the profile byte of a window that names a profile, or FFh for none. -/
theorem readWindowRecord_profile {b : List Byte} {stored : Option ProfileId} (hl : 2 < b.length)
    (h : (stored.map (fun p => p.val)).getD 255 = (byteAt b 2).toNat) :
    (readWindowRecord b).profile = stored := by
  simp only [readWindowRecord]
  rw [bodyNat_byte b 2 hl, ← h, readProfileChoice_eq]
  cases stored with
  | none => simp
  | some p =>
    have hp : p.val ≠ 255 := by omega
    simp [hp]

theorem readWindowRecord_cls {b : List Byte} {c : Fin 4} (hl : 3 < b.length)
    (h : (byteAt b 3).toNat = c.val) : (readWindowRecord b).cls = c := by
  simp only [readWindowRecord]
  rw [bodyNat_byte b 3 hl, h]
  exact Fin.ofNat_val_eq_self c

/-- R31 and R166: the window stored, of W0 the profile index and the class alone. -/
theorem storedWindow_eq {b : List Byte} {stored : Option ProfileId} {c : Fin 4}
    (hl : 3 < b.length) (hp : (stored.map (fun p => p.val)).getD 255 = (byteAt b 2).toNat)
    (hc : (byteAt b 3).toNat = c.val) (w : WindowId) (old : Window) :
    storedWindow w old b =
      if w = 0 then { old with profile := stored, cls := c }
      else { active := decide ((byteAt b 1).toNat = 1)
             value := BitVec.ofNat 24 (beNat (field b 4 3))
             mask := BitVec.ofNat 24 (beNat (field b 7 3)), profile := stored, cls := c } := by
  have active : (readWindowRecord b).active = decide ((byteAt b 1).toNat = 1) :=
    congrArg (fun x : Nat => x == 1) (bodyNat_byte b 1 (by omega))
  have profile := readWindowRecord_profile (by omega) hp
  have cls := readWindowRecord_cls hl hc
  rw [storedWindow, ← active, ← profile, ← cls]
  rfl

/-- Settles O27: `windowBad_eq` gives the order of the checks, `storedWindow_eq` the window. -/
theorem loadWindowStoresOrRefuses : Obligations.LoadWindowStoresOrRefuses := by
  intro f s hands len b active profile cls profileOk
  have hlen : b.length = 12 := len
  refine ⟨fun hn => ?_, fun w hn => ?_⟩
  · exact runDirective_of_refusal hands len codeLoadWindow
      (takeLoadWindow_of_badNumber (objectNumber_byte_none (by omega) hn))
  have hw := objectNumber_byte (by omega) hn
  have checks := windowBad_eq (b := b) (by omega) (w == 0)
  simp only [beq_iff_eq] at checks
  have refuse {n : Nat} (h : windowBad (w == 0) b = some n) :
      exec (.loadWindow f) s = .next (s.answered f 0x05 (.badField n) .none) :=
    runDirective_of_refusal hands len codeLoadWindow (takeLoadWindow_of_badField hw h)
  refine ⟨fun h0 ha => refuse ?_, fun ha hp => refuse ?_, fun ha hp hc => refuse ?_,
    fun ha hp c hc stored hs => ?_⟩
  · rw [checks, if_neg (not_or.2 ⟨h0, Nat.not_le.2 ha⟩)]
  · rw [checks, if_pos ha, if_neg hp]
  · rw [checks, if_pos ha, if_pos hp, if_neg (Nat.not_le.2 hc)]
  · intro new
    have passed : windowBad (w == 0) b = none := by
      rw [checks, if_pos ha, if_pos hp, if_pos (show cls ≤ 3 by omega)]
    have taken := runDirective_of_answer hands len codeLoadWindow
      (takeLoadWindow_of_good hw passed)
    rw [storedWindow_eq (by omega) hs hc, s.taking_windows] at taken
    exact taken

/-! ### LOAD PROFILE (R22, R24, R25) -/

/-- R26: when a profile is in use. -/
theorem State.profileInUse_iff (s : State) (p : ProfileId) :
    s.profileInUse p = true ↔
      ∃ ch, (s.channel ch).state ≠ .closed ∧ (s.channel ch).profile = p := by
  simp only [State.profileInUse, List.any_eq_true, Vector.mem_toList_iff, Bool.and_eq_true,
    bne_iff_ne, beq_iff_eq]
  constructor
  · rintro ⟨c, hc, holds⟩
    obtain ⟨i, hi, rfl⟩ := Vector.getElem_of_mem hc
    exact ⟨⟨i, hi⟩, holds⟩
  · rintro ⟨ch, holds⟩
    exact ⟨_, Vector.getElem_mem ch.isLt, holds⟩

section LoadProfile
variable {b : List Byte} {s : State} {p : ProfileId}

theorem takeLoadProfile_of_badNumber (h : objectNumber 16 (bodyNat b 0 1) = none) :
    takeLoadProfile b s = (s, Answer.of (.badField 0)) := by
  rw [takeLoadProfile, h]

variable (hp : objectNumber 16 (bodyNat b 0 1) = some p)
include hp

theorem takeLoadProfile_of_inUse (h : s.profileInUse p = true) :
    takeLoadProfile b s = (s, Answer.of .inUse) := by
  simp only [takeLoadProfile, hp, h, if_true]

variable (hfree : s.profileInUse p = false)
include hfree

theorem takeLoadProfile_of_badValid (h : isFlag (bodyNat b 1 1) = false) :
    takeLoadProfile b s = (s, Answer.of (.badField 1)) := by
  simp [takeLoadProfile, hp, hfree, h]

variable (hflag : isFlag (bodyNat b 1 1) = true)
include hflag

theorem takeLoadProfile_of_badField (hv : (readProfileRecord b).valid = true) {n : Nat}
    (h : (readProfileRecord b).firstBad = some n) :
    takeLoadProfile b s = (s, Answer.of (.badField n)) := by
  simp [takeLoadProfile, hp, hfree, hflag, hv, h]

/-- R24 and R25: a record is stored when it is loaded as invalid or all its fields are in range. -/
theorem takeLoadProfile_of_stored
    (h : (readProfileRecord b).valid = true → (readProfileRecord b).firstBad = none) :
    takeLoadProfile b s =
      ({ s with profiles := s.profiles.set p (readProfileRecord b) }, Answer.of .done) := by
  cases hv : (readProfileRecord b).valid with
  | false => simp [takeLoadProfile, hp, hfree, hflag, hv]
  | true => simp [takeLoadProfile, hp, hfree, hflag, hv, h hv]

end LoadProfile

/-- Settles O25: each outcome is one case of LOAD PROFILE's answer; the record is read field by
field. -/
theorem loadProfileStoresOrRefuses : Obligations.LoadProfileStoresOrRefuses := by
  intro f s hands len b valid at1 at2 at4 rendition record
  have hlen : b.length = 92 := len
  have hvalid : bodyNat b 1 1 = valid := bodyNat_byte b 1 (by omega)
  have hrecord : readProfileRecord b = record := by
    simp (disch := omega) only [readProfileRecord, readRendition, bodyNat_byte]
    rfl
  have refuse {r : Result} (h : takeLoadProfile b s.taking = (s.taking, Answer.of r)) :
      exec (.loadProfile f) s = .next (s.answered f 0x03 r .none) :=
    runDirective_of_refusal hands len codeLoadProfile h
  refine ⟨fun hn => refuse (takeLoadProfile_of_badNumber (objectNumber_byte_none (by omega) hn)),
    fun p hn => ?_⟩
  intro inUse stored
  have hp := objectNumber_byte (by omega) hn
  have used : s.taking.profileInUse p = true ↔ inUse := by
    simp only [State.profileInUse_iff, State.taking_channel]; rfl
  have unused (h : ¬ inUse) : s.taking.profileInUse p = false :=
    Bool.not_eq_true _ ▸ mt used.1 h
  have flag (h : valid ≤ 1) : isFlag (bodyNat b 1 1) = true := (isFlag_iff _).2 (hvalid ▸ h)
  have store (free : ¬ inUse) (h1 : valid ≤ 1)
      (h : record.valid = true → record.firstBad = none) :
      exec (.loadProfile f) s = .next (stored.reply f.tag 0x03 .done .none) := by
    rw [← hrecord] at h
    have taken := runDirective_of_answer hands len codeLoadProfile
      (takeLoadProfile_of_stored hp (unused free) (flag h1) h)
    rw [s.taking_profiles] at taken
    refine taken.trans ?_
    simp only [stored, ← hrecord]
    rfl
  refine ⟨fun h => refuse (takeLoadProfile_of_inUse hp (used.2 h)), fun free h2 => refuse ?_,
    fun free h0 => ?_, fun free h1 n hbad => refuse ?_, fun free h1 hgood => ?_⟩
  · have bad : isFlag (bodyNat b 1 1) = false :=
      decide_eq_false (hvalid.symm ▸ Nat.not_le.2 h2)
    exact takeLoadProfile_of_badValid hp (unused free) bad
  · exact store free (by omega) fun hv => absurd (of_decide_eq_true hv) (by omega)
  · rw [← hrecord] at hbad
    have hv : (readProfileRecord b).valid = true := hrecord ▸ decide_eq_true h1
    exact takeLoadProfile_of_badField hp (unused free) (flag (by omega)) hv hbad
  · exact store free (by omega) fun _ => hgood

end Sys2Proof.Machine

/-! SUPPORT. What no command may change: the tables that software loads stay in range, a profile in
use stays as it is, and each rendition's fullness stays within its buffer (R24, R26, R68, R155).
First the relation that nearly every operation keeps, then the operations, then the commands one by
one; LOAD PROFILE, SET LINK and power-on reset, which write the tables, come last. -/

namespace Sys2Proof.Machine

-- One after another: elaborated side by side, these many case splits exceed the memory limit.
set_option Elab.async false

/-! ### What leaves the tables alone -/

/-- R68 for one channel that reads a profile: the contexts' fullness within the buffer sizes, and no
contexts on a CLOSED channel. -/
def Channel.RateOk (c : Channel) (p : Profile) : Prop :=
  (c.state = .closed → c.contexts = [])
    ∧ ∀ (r : Fin 4) (x : RenditionContext), c.contexts[r.val]? = some x →
      x.fullness ≤ p.renditions[r].bitrate * p.renditions[r].window

/-- R68 for one channel among the profiles of the part. -/
def Channel.Fits (profiles : Vector Profile 16) (c : Channel) : Prop :=
  c.RateOk profiles[c.profile]

theorem State.fullnessOk_iff (s : State) :
    s.FullnessOk ↔ ∀ ch, (s.channel ch).Fits s.profiles := Iff.rfl

/-- Nothing between the two states has loaded a profile or the link settings, and the fullness bound
is not lost. -/
structure State.KeepsTables (s t : State) : Prop where
  profiles : t.profiles = s.profiles
  settings : t.settings = s.settings
  fullness : s.FullnessOk → t.FullnessOk

namespace State.KeepsTables
variable {s t u : State}

theorem refl : s.KeepsTables s := ⟨rfl, rfl, id⟩

theorem trans (h : s.KeepsTables t) (k : t.KeepsTables u) : s.KeepsTables u :=
  ⟨k.profiles.trans h.profiles, k.settings.trans h.settings, fun ok => k.fullness (h.fullness ok)⟩

/-- An update that leaves the profiles, the settings and the channels. -/
theorem of_eq (hp : t.profiles = s.profiles := by simp) (hs : t.settings = s.settings := by simp)
    (hc : t.channels = s.channels := by simp) : s.KeepsTables t :=
  ⟨hp, hs, fun ok => by
    simpa only [State.fullnessOk_iff, State.channel, hp, hc] using ok⟩

/-- An update that also writes one channel record. -/
theorem of_set {ch : ChannelId} {c : Channel}
    (hc : t.channels = s.channels.set ch c)
    (h : (s.channel ch).Fits s.profiles → c.Fits s.profiles)
    (hp : t.profiles = s.profiles := by rfl) (hs : t.settings = s.settings := by rfl) :
    s.KeepsTables t := by
  refine ⟨hp, hs, fun ok => t.fullnessOk_iff.2 fun x => ?_⟩
  have record : t.channel x = if x = ch then c else s.channel x :=
    (State.channel_congr (t := s.modChannel ch fun _ => c) hc x).trans
      (s.channel_modChannel ch _ x)
  rw [record, hp]
  by_cases hx : x = ch
  · rw [if_pos hx]; exact h (ok ch)
  · rw [if_neg hx]; exact ok x

theorem foldl {α : Type} {f : State → α → State} (h : ∀ (t : State) (a : α), t.KeepsTables (f t a))
    (l : List α) : ∀ s : State, s.KeepsTables (l.foldl f s) := by
  induction l with
  | nil => exact fun s => refl
  | cons a l ih => exact fun s => (h s a).trans (ih (f s a))

end State.KeepsTables

/-! ### What leaves a channel's rates alone -/

/-- A rewrite of a record that reads profile `p`: it goes on to read it and keeps the bound. -/
def Channel.KeepsRates (p : Profile) (c d : Channel) : Prop :=
  d.profile = c.profile ∧ (c.RateOk p → d.RateOk p)

namespace Channel.KeepsRates
variable {p : Profile} {c d e : Channel}

theorem trans (h : KeepsRates p c d) (k : KeepsRates p d e) : KeepsRates p c e :=
  ⟨k.1.trans h.1, fun ok => k.2 (h.2 ok)⟩

/-- The contexts are left, and the channel is not closed. -/
theorem of_contexts (hp : d.profile = c.profile := by rfl) (hc : d.contexts = c.contexts := by rfl)
    (hs : d.state = .closed → c.state = .closed := by exact id) : KeepsRates p c d :=
  ⟨hp, fun ⟨empty, bound⟩ => ⟨fun h => hc.trans (empty (hs h)), fun r x hx => bound r x (hc ▸ hx)⟩⟩

end Channel.KeepsRates

/-- An update that rewrites one channel record and keeps its rates. -/
theorem State.KeepsTables.of_rates {s t : State} {ch : ChannelId} {c : Channel}
    (hc : t.channels = s.channels.set ch c)
    (h : Channel.KeepsRates (s.profileOf ch) (s.channel ch) c)
    (hp : t.profiles = s.profiles := by rfl) (hs : t.settings = s.settings := by rfl) :
    s.KeepsTables t := by
  refine .of_set hc (fun ok => ?_) hp hs
  have kept : s.profiles[c.profile] = s.profileOf ch :=
    congrArg (fun i : ProfileId => s.profiles[i]) h.1
  have rates := h.2 ok
  rwa [← kept] at rates

theorem State.KeepsTables.modChannel {s : State} {ch : ChannelId} {f : Channel → Channel}
    (h : Channel.KeepsRates (s.profileOf ch) (s.channel ch) (f (s.channel ch))) :
    s.KeepsTables (s.modChannel ch f) := .of_rates rfl h

/-- A rewrite of a context leaves the bound when it does so for that rendition. -/
theorem Channel.keepsRates_modContext {p : Profile} (c : Channel) (r : Nat)
    {f : RenditionContext → RenditionContext}
    (h : ∀ i : Fin 4, i.val = r → ∀ x : RenditionContext,
      x.fullness ≤ (p.renditions[i]).bitrate * (p.renditions[i]).window →
      (f x).fullness ≤ (p.renditions[i]).bitrate * (p.renditions[i]).window) :
    Channel.KeepsRates p c (c.modContext r f) := by
  refine ⟨rfl, fun ⟨empty, bound⟩ => ⟨fun hs => ?_, fun i x hx => ?_⟩⟩
  · have hnone : c.contexts = [] := empty hs
    simp [Channel.modContext, hnone]
  · simp only [Channel.modContext, List.getElem?_modify] at hx
    obtain ⟨y, hy, rfl⟩ := Option.map_eq_some_iff.1 hx
    split
    · next hr => exact h i hr.symm y (bound i y hy)
    · exact bound i y hy

/-- R68: the clamp of F' to S. -/
theorem RenditionContext.applyFullness_le (x : RenditionContext) (f' : Int) (size : Nat) :
    (x.applyFullness f' size).fullness ≤ size := by
  unfold RenditionContext.applyFullness
  split
  · exact le_refl size
  · split
    · exact Nat.zero_le size
    · show f'.toNat ≤ size
      omega

/-- The fields of rendition `r` of a profile as `State.renditionSpec` reads them: zeros when there
is none. -/
abbrev Profile.spec (p : Profile) (r : Nat) : RenditionSpec :=
  (p.renditions[r]?).getD RenditionSpec.zero

theorem Profile.spec_eq (p : Profile) (i : Fin 4) : p.spec i.val = p.renditions[i] := by
  simp [Profile.spec]

/-- R68: a fullness update with the rendition's own buffer size. -/
theorem Channel.keepsRates_updateFullness (p : Profile) (c : Channel) (r delta size : Nat) :
    Channel.KeepsRates p c (c.updateFullness (p.spec r) r delta size) := by
  unfold Channel.updateFullness
  split
  · exact .of_contexts
  · refine (c.keepsRates_modContext r fun i hi x _ => ?_).trans .of_contexts
    refine (x.applyFullness_le _ _).trans ?_
    rw [← hi, p.spec_eq]
    exact le_refl _

theorem Channel.keepsRates_completeInSegment (p : Profile) (c : Channel) (n r size : Nat) :
    Channel.KeepsRates p c (c.completeInSegment n r size) := .of_contexts

theorem Channel.keepsRates_landed (p : Profile) (c : Channel) (r : Nat) :
    Channel.KeepsRates p c (c.landed r) :=
  c.keepsRates_modContext r fun _ _ _ h => h

/-- R71. -/
theorem Channel.keepsRates_skipCompleted (p : Profile) (c : Channel) (r delta : Nat) (good : Bool) :
    Channel.KeepsRates p c (c.skipCompleted (p.spec r) r delta good) := by
  have cleared : Channel.KeepsRates p c
      (if good then c.modContext r (fun x => { x with skipPending := false }) else c) := by
    split
    · exact c.keepsRates_modContext r fun _ _ _ h => h
    · exact .of_contexts
  exact (cleared.trans (Channel.keepsRates_updateFullness p _ r delta _)).trans .of_contexts

/-- R84: counters, fullness, reference and dimensions. -/
theorem Channel.keepsRates_engineCompleted (p : Profile) (c : Channel) (j : Job)
    (record : DispatchRecord) (r : CompletionReport) :
    Channel.KeepsRates p c (c.engineCompleted (p.spec j.rendition) j record r) := by
  have updated := Channel.keepsRates_updateFullness p c j.rendition j.delta r.size
  unfold Channel.engineCompleted
  dsimp only
  generalize c.updateFullness (p.spec j.rendition) j.rendition j.delta r.size = d at updated ⊢
  have counted : Channel.KeepsRates p c
      (if r.capped then { d with counters := d.counters.capped } else d) := by
    split
    · exact updated.trans .of_contexts
    · exact updated
  split
  · exact counted
  · exact counted.trans (Channel.keepsRates_modContext _ _ fun _ _ _ h => h)

theorem Channel.keepsRates_modNewest (p : Profile) (c : Channel)
    (f : SegmentEntry → SegmentEntry) : Channel.KeepsRates p c (c.modNewest f) := by
  unfold Channel.modNewest
  split <;> exact .of_contexts

theorem Channel.keepsRates_adoptBase (p : Profile) (c : Channel) (timestamp : Nat) :
    Channel.KeepsRates p c (c.adoptBase timestamp) := by
  rw [Channel.adoptBase_eq]; exact .of_contexts

/-- R40 to R43: a cut writes the segment table, the next cut and the cut pending. -/
theorem Channel.keepsRates_decideCut (p q : Profile) (c : Channel) (good : Bool) (t : Nat) :
    Channel.KeepsRates p c (c.decideCut q good t).1 := by
  unfold Channel.decideCut
  split
  · split <;> exact .of_contexts
  · split
    · unfold Channel.laterCut
      split <;> exact .of_contexts
    · exact .of_contexts

theorem Channel.keepsRates_addAudio (p : Profile) (c : Channel) (n : Nat) :
    Channel.KeepsRates p c (c.addAudio n) := by
  unfold Channel.addAudio
  split
  · exact c.keepsRates_modNewest p _
  · exact .of_contexts

/-- A record without contexts meets the bound, whatever the profile. -/
theorem Channel.rateOk_of_noContexts {c : Channel} (h : c.contexts = []) (p : Profile) :
    c.RateOk p := by
  refine ⟨fun _ => h, fun r x hx => ?_⟩
  rw [h] at hx
  exact nomatch hx

/-- R12 and R59: a CLOSED record has no contexts. -/
theorem Channel.keepsRates_closed (p : Profile) (c : Channel) : Channel.KeepsRates p c c.closed :=
  ⟨rfl, fun _ => Channel.rateOk_of_noContexts rfl p⟩

/-! ### The shared operations leave the tables alone -/

namespace State
variable (s : State)

theorem keepsTables_beginReturn : s.KeepsTables s.beginReturn := .of_eq

theorem KeepsTables.raise {s t : State} {e : Event} (h : s.KeepsTables t) :
    s.KeepsTables (t.raise e) := h.trans .of_eq

theorem KeepsTables.raiseAll {s t : State} {es : List Event} (h : s.KeepsTables t) :
    s.KeepsTables (t.raiseAll es) := h.trans .of_eq

theorem KeepsTables.startStall {s t : State} (h : s.KeepsTables t) :
    s.KeepsTables t.startStall := h.trans .of_eq

/-- R159: a hold's decision enters HELD at most. -/
theorem KeepsTables.decideHold {s t : State} (h : s.KeepsTables t) :
    s.KeepsTables t.decideHold.1 := by
  rcases t.decideHold_spec with same | ⟨-, -, held⟩
  · rw [same]; exact h
  · rw [held]; exact h.trans .of_eq

theorem KeepsTables.settleHold {s t : State} (h : s.KeepsTables t) :
    s.KeepsTables t.settleHold := h.trans .of_eq

theorem KeepsTables.releaseHead {s t : State} (h : s.KeepsTables t) :
    s.KeepsTables t.releaseHead := h.trans (.of_eq rfl rfl rfl)

theorem keepsTables_discardPartial (ch : ChannelId) : s.KeepsTables (s.discardPartial ch) := by
  rw [discardPartial_eq]
  exact KeepsTables.trans .of_eq (.modChannel .of_contexts)

/-- R145 and R147: the loss of the link frees partial pictures and voids credits. -/
theorem keepsTables_ingestLoss : s.KeepsTables s.ingestLoss := by
  have discarded := KeepsTables.foldl keepsTables_discardPartial (List.finRange 32) s
  unfold ingestLoss
  generalize (List.finRange 32).foldl discardPartial s = t at discarded ⊢
  exact discarded.trans (.of_eq rfl rfl rfl)

theorem keepsTables_headerFailure : s.KeepsTables s.headerFailure := by
  have lost := keepsTables_ingestLoss (s.countFrame FrameCounters.countHeader)
  unfold headerFailure resynchronise
  generalize (s.countFrame FrameCounters.countHeader).ingestLoss = t at lost ⊢
  exact (KeepsTables.trans .of_eq lost).trans (.of_eq rfl rfl rfl)

theorem keepsTables_setPartial (ch : ChannelId) (a : Option PartialPicture) :
    s.KeepsTables (s.setPartial ch a) := .modChannel .of_contexts

theorem keepsTables_count (ch : ChannelId) (f : ChannelCounters → ChannelCounters) :
    s.KeepsTables (s.count ch f) := .modChannel .of_contexts

theorem keepsTables_clearDecode (ch : ChannelId) : s.KeepsTables (s.clearDecode ch) :=
  .modChannel .of_contexts

theorem keepsTables_markerMatch (i : MarkerId) (u : MarkedUnit) :
    s.KeepsTables (s.markerMatch i u) := by
  have reported : s.KeepsTables
      (if (s.markers[i]).report then
        State.raise { s with matchFlags := s.matchFlags.set i true }
          (.mark i u.channel u.kind u.time)
      else { s with matchFlags := s.matchFlags.set i true }) := by
    split <;> exact .of_eq
  unfold markerMatch
  dsimp only
  split
  · exact reported
  · exact reported.trans (.modChannel .of_contexts)
  · exact reported.trans (.modChannel .of_contexts)

theorem keepsTables_evaluateMarkers (u : MarkedUnit) : s.KeepsTables (s.evaluateMarkers u) := by
  refine KeepsTables.foldl (fun t i => ?_) _ s
  split
  · exact t.keepsTables_markerMatch i u
  · exact .refl

/-- R39 to R47: the segmenter writes the channel's segments, not its contexts. -/
theorem keepsTables_takePicture (pic : DecodedPicture) : s.KeepsTables (s.takePicture pic) := by
  have numbered : s.KeepsTables (s.modChannel pic.channel fun c =>
      { c with lastDelta := pic.delta
               pictureNumber := count32 (s.channel pic.channel).pictureNumber }) :=
    .modChannel .of_contexts
  have marked := numbered.trans (keepsTables_evaluateMarkers _ pic.marked)
  unfold takePicture
  dsimp only
  generalize State.evaluateMarkers _ _ = t at marked ⊢
  exact marked.trans (.of_rates rfl
    ((Channel.keepsRates_decideCut _ _ _ _ _).trans (Channel.keepsRates_modNewest _ _ _)))

/-! ### Media frames and decodes leave the tables alone -/

theorem keepsTables_stray : s.KeepsTables s.stray := .of_eq rfl rfl rfl

theorem keepsTables_acceptPicture (ch : ChannelId) (slot : SlotId) (time : Nat)
    (flags : BitVec 16) : s.KeepsTables (s.acceptPicture ch slot time flags) := by
  have adopted : Channel.KeepsRates (s.profileOf ch) (s.channel ch)
      ((s.channel ch).adoptBase time) := Channel.keepsRates_adoptBase _ _ _
  unfold acceptPicture
  dsimp only
  split
  · exact .of_rates rfl (adopted.trans .of_contexts)
  · exact .of_rates rfl (adopted.trans .of_contexts)

theorem keepsTables_acceptSmall (k : SmallKind) (f : MediaFrame) :
    s.KeepsTables (s.acceptSmall k f) := by
  have adopted : Channel.KeepsRates (s.profileOf f.channel) (s.channel f.channel)
      ((s.channel f.channel).adoptBase f.timestamp.toNat) := Channel.keepsRates_adoptBase _ _ _
  unfold acceptSmall
  dsimp only
  split
  · exact .of_rates rfl (adopted.trans .of_contexts)
  · cases k with
    | audio => exact .of_rates rfl (adopted.trans .of_contexts)
    | cue => exact .of_rates rfl adopted

theorem keepsTables_startPicture (p : StartPosition) (f : MediaFrame) (slot : SlotId) :
    s.KeepsTables (s.startPicture p f slot) := by
  have filled := (s.keepsTables_discardPartial f.channel).trans
    (u := { s.discardPartial f.channel with
      pool := (s.discardPartial f.channel).pool.fill slot f.payload.bytes }) (.of_eq rfl rfl rfl)
  unfold startPicture
  split
  · cases p with
    | first => exact filled.trans (keepsTables_setPartial _ _ _)
    | only => exact filled.trans (keepsTables_acceptPicture _ _ _ _ _)
  · exact .of_eq rfl rfl rfl

theorem keepsTables_startPictureFailed (f : MediaFrame) (slot : SlotId) :
    s.KeepsTables (s.startPictureFailed f slot) := by
  have counted : s.KeepsTables ((s.releaseSlot slot).countFrame FrameCounters.countPayload) :=
    .of_eq
  unfold startPictureFailed
  dsimp only
  split
  · exact (counted.trans (keepsTables_discardPartial _ _)).trans (keepsTables_count _ _ _)
  · exact counted

theorem keepsTables_continuePicture (p : ContinuationPosition) (f : MediaFrame) :
    s.KeepsTables (s.continuePicture p f) := by
  unfold continuePicture
  dsimp only
  split
  · next part _ _ =>
    have appended : s.KeepsTables
        { s with pool := s.pool.append part.slot f.payload.bytes } := .of_eq rfl rfl rfl
    split
    · exact s.keepsTables_discardPartial _
    · split
      · exact s.keepsTables_discardPartial _
      · cases p with
        | middle => exact appended.trans (keepsTables_setPartial _ _ _)
        | last =>
          exact (appended.trans (keepsTables_setPartial _ _ _)).trans
            (keepsTables_acceptPicture _ _ _ _ _)
  · exact s.keepsTables_stray

theorem keepsTables_continuationFailed (f : MediaFrame) :
    s.KeepsTables (s.continuationFailed f) := by
  unfold continuationFailed
  dsimp only
  split
  · exact KeepsTables.trans .of_eq (keepsTables_discardPartial _ _)
  · exact .of_eq

theorem keepsTables_startSmall (k : SmallKind) (p : Position) (f : MediaFrame) :
    s.KeepsTables (s.startSmall k p f) := by
  unfold startSmall
  split
  · exact s.keepsTables_acceptSmall k f
  · exact s.keepsTables_stray

theorem keepsTables_smallFailed (p : Position) (f : MediaFrame) :
    s.KeepsTables (s.smallFailed p f) := by
  unfold smallFailed
  dsimp only
  split
  · exact KeepsTables.trans .of_eq (keepsTables_count _ _ _)
  · exact .of_eq

theorem keepsTables_startDecode (engine : DecodeEngineId) (entry : DecodeEntry) :
    s.KeepsTables (s.startDecode engine entry) := .of_rates rfl .of_contexts

/-- R109 to R111: a decode's picture is dropped, taken or held. -/
theorem keepsTables_handOver (e : DecodeEngineId) (pic : DecodedPicture) :
    s.KeepsTables (s.handOver e pic) := by
  have idled (t : State) (h : s.KeepsTables t) :
      s.KeepsTables ((t.clearDecode pic.channel).setDecodeEngine e .idle) :=
    (h.trans (t.keepsTables_clearDecode _)).trans (.of_eq rfl rfl rfl)
  unfold handOver
  split
  · exact idled _ (.modChannel .of_contexts)
  · split
    · exact idled _ (s.keepsTables_takePicture pic)
    · unfold holdPicture
      cases pic.source <;> exact .of_eq rfl rfl rfl

theorem keepsTables_finishDecode (e : DecodeEngineId) (d : DecodeEntry) (good : Bool) :
    s.KeepsTables (s.finishDecode e d good) := by
  unfold finishDecode
  dsimp only
  split
  · exact s.keepsTables_handOver e _
  · have concealed : s.KeepsTables (s.conceal d) :=
      KeepsTables.trans (t := s.releaseSlot d.slot) .of_eq (keepsTables_count _ _ _)
    exact concealed.trans (keepsTables_handOver _ _ _)

theorem keepsTables_abandonDecode (e : DecodeEngineId) (d : DecodeEntry) :
    s.KeepsTables (s.abandonDecode e d) := by
  have cleared : s.KeepsTables ((s.releaseSlot d.slot).clearDecode d.channel) :=
    KeepsTables.trans (t := s.releaseSlot d.slot) .of_eq (keepsTables_clearDecode _ _)
  exact cleared.trans (.of_eq rfl rfl rfl)

theorem keepsTables_reportRead (o : ReadOutcome) (r : FaultRecord) :
    s.KeepsTables (s.reportRead o r) := .of_eq

/-! ### Jobs leave the tables alone -/

theorem keepsTables_startJob (i : Nat) (j : Job) (record : DispatchRecord) (pool : SlotPool) :
    s.KeepsTables (s.startJob i j record pool) := by
  exact .of_rates rfl (Channel.keepsRates_modContext _ j.rendition fun _ _ _ h => h)

theorem keepsTables_completeSkip (i : Nat) (j : Job) : s.KeepsTables (s.completeSkip i j) := by
  have skipped := Channel.keepsRates_skipCompleted (s.profileOf j.channel) (s.channel j.channel)
    j.rendition j.delta j.isGood
  exact .of_rates rfl
    (skipped.trans (Channel.keepsRates_completeInSegment _ _ j.segment j.rendition _))

theorem keepsTables_completeJob (e : EncodeEngineId) (i : Nat) (j : Job) (record : DispatchRecord)
    (r : CompletionReport) : s.KeepsTables (s.completeJob e i j record r) := by
  have completed := Channel.keepsRates_engineCompleted (s.profileOf j.channel) (s.channel j.channel)
    j record r
  exact .of_rates rfl ((completed.trans
    (Channel.keepsRates_completeInSegment _ _ j.segment j.rendition r.size)).trans
    (Channel.keepsRates_landed _ _ j.rendition))

theorem keepsTables_abandonJob (e : EncodeEngineId) (i : Nat) (j : Job) (record : DispatchRecord)
    (r : CompletionReport) : s.KeepsTables (s.abandonJob e i j record r) :=
  .of_rates rfl (Channel.keepsRates_landed _ _ j.rendition)

/-! ### The ends of channels and the audio path leave the tables alone -/

theorem keepsTables_endChannel (ch : ChannelId) (outcome : ChannelOutcome) :
    s.KeepsTables (s.endChannel ch outcome) :=
  .of_rates rfl (Channel.keepsRates_closed _ _)

theorem keepsTables_finishAbort (ch : ChannelId) : s.KeepsTables (s.finishAbort ch).1 := by
  unfold finishAbort
  split
  · exact s.keepsTables_endChannel ch .aborted
  · exact .refl

theorem keepsTables_abortWork (ch : ChannelId) : s.KeepsTables (s.abortWork ch) := by
  rw [abortWork_eq]
  refine .of_rates (ch := ch) rfl ?_
  beta_reduce
  rw [Channel.aborting_eq]
  exact .of_contexts rfl rfl nofun

theorem keepsTables_sendAudio (u : SmallUnit) : s.KeepsTables (s.sendAudio u) := by
  unfold sendAudio
  dsimp only
  exact .of_rates rfl ((Channel.keepsRates_addAudio _ _ _).trans .of_contexts)

end State

/-! ### The commands that are not directives -/

/-- Whatever next state a command answers, the tables are left alone. -/
def Yields (s : State) (o : Host.Outcome State Fault Refusal) : Prop :=
  ∀ t, o = .next t → s.KeepsTables t

theorem Yields.next {s t : State} (h : s.KeepsTables t) : Yields s (.next t) := by
  intro u hu; cases hu; exact h

theorem Yields.fault {s : State} (r : Fault) : Yields s (.fault r) :=
  fun _ h => nomatch h

theorem Yields.same (s : State) : Yields s (.next s) := .next .refl

/-- A command that goes on from a state that has the tables as they were. -/
theorem Yields.after {s u : State} {o : Host.Outcome State Fault Refusal}
    (h : s.KeepsTables u) (k : Yields u o) : Yields s o :=
  fun t ht => h.trans (k t ht)

/-! ### Every command that is no directive leaves the tables alone -/

section Commands
variable (s : State)

theorem execPictureStartFrame_yields (p : StartPosition) (f : MediaFrame) :
    Yields s (execPictureStartFrame p f s) := by
  refine .after s.keepsTables_beginReturn ?_
  unfold execPictureStartFrame
  dsimp only
  split
  · exact .same _
  · split
    · exact .next (State.keepsTables_headerFailure _)
    · split
      · exact .next .of_eq
      · next slot rest _ =>
        have spent : s.beginReturn.KeepsTables { s.beginReturn with
            pool := { s.beginReturn.pool with reserved := rest } } := .of_eq rfl rfl rfl
        split
        · exact .next (spent.trans (State.keepsTables_startPicture _ _ _ _))
        · exact .next (spent.trans (State.keepsTables_startPictureFailed _ _ _))

theorem execPictureContinuationFrame_yields (p : ContinuationPosition) (f : MediaFrame) :
    Yields s (execPictureContinuationFrame p f s) := by
  refine .after s.keepsTables_beginReturn ?_
  unfold execPictureContinuationFrame
  dsimp only
  split
  · exact .same _
  · split
    · exact .next (State.keepsTables_headerFailure _)
    · split
      · exact .next (State.keepsTables_continuePicture _ _ _)
      · exact .next (State.keepsTables_continuationFailed _ _)

theorem execSmallUnitFrame_yields (k : SmallKind) (p : Position) (f : MediaFrame) :
    Yields s (execSmallUnitFrame k p f s) := by
  have spent : s.beginReturn.KeepsTables { s.beginReturn with ingest := { s.beginReturn.ingest with
      smallOutstanding := s.beginReturn.ingest.smallOutstanding - 1 } } := .of_eq rfl rfl rfl
  refine .after s.keepsTables_beginReturn ?_
  unfold execSmallUnitFrame
  dsimp only
  split
  · exact .same _
  · split
    · exact .next (State.keepsTables_headerFailure _)
    · split
      · exact .next .of_eq
      · split
        · exact .next (spent.trans (State.keepsTables_startSmall _ _ _ _))
        · exact .next (spent.trans (State.keepsTables_smallFailed _ _ _))

theorem execUnitKindNoneFrame_yields (p : Position) (f : MediaFrame) :
    Yields s (execUnitKindNoneFrame p f s) := by
  refine .after s.keepsTables_beginReturn ?_
  unfold execUnitKindNoneFrame
  dsimp only
  split
  · exact .same _
  · split
    · exact .next (State.keepsTables_headerFailure _)
    · split
      · exact .next (State.keepsTables_stray _)
      · exact .next .of_eq

theorem execHeaderCheckFailure_yields (header : List Byte) :
    Yields s (execHeaderCheckFailure header s) := by
  refine .after s.keepsTables_beginReturn ?_
  unfold execHeaderCheckFailure
  dsimp only
  split
  · exact .next (State.keepsTables_headerFailure _)
  · exact .same _

theorem execIngestLinkUp_yields : Yields s (execIngestLinkUp s) := by
  refine .after s.keepsTables_beginReturn ?_
  unfold execIngestLinkUp
  dsimp only
  split
  · exact .same _
  · exact .next (.of_eq rfl rfl rfl)

theorem execIngestLinkDown_yields (inHand : Nat) : Yields s (execIngestLinkDown inHand s) := by
  refine .after s.keepsTables_beginReturn ?_
  have lost := s.beginReturn.keepsTables_ingestLoss
  unfold execIngestLinkDown
  dsimp only
  generalize s.beginReturn.ingestLoss = t at lost ⊢
  split
  · exact .same _
  · exact .next (lost.trans .of_eq)

theorem execPictureCreditGrant_yields : Yields s (execPictureCreditGrant s) := by
  unfold execPictureCreditGrant
  dsimp only
  split
  · exact .same _
  · exact .next (.of_eq rfl rfl rfl)

theorem execSmallCreditGrant_yields : Yields s (execSmallCreditGrant s) := by
  unfold execSmallCreditGrant
  dsimp only
  split
  · exact .same _
  · exact .next (.of_eq rfl rfl rfl)

theorem execDirectiveCreditGrant_yields : Yields s (execDirectiveCreditGrant s) := by
  unfold execDirectiveCreditGrant
  dsimp only
  split
  · exact .same _
  · exact .next (.of_eq rfl rfl rfl)

theorem execCreditFrameSent_yields : Yields s (execCreditFrameSent s) := by
  refine .after s.keepsTables_beginReturn ?_
  unfold execCreditFrameSent
  dsimp only
  split
  · exact .next (.of_eq rfl rfl rfl)
  · exact .same _

theorem execReportFrameSent_yields : Yields s (execReportFrameSent s) := by
  refine .after s.keepsTables_beginReturn ?_
  unfold execReportFrameSent
  dsimp only
  split
  · exact .next (.of_eq rfl rfl rfl)
  · exact .next (.of_eq rfl rfl rfl)
  · exact .same _

theorem execEgressCredit_yields (f : RawFrame) : Yields s (execEgressCredit f s) := by
  refine .after s.keepsTables_beginReturn ?_
  unfold execEgressCredit
  dsimp only
  split
  · exact .next (.of_eq rfl rfl rfl)
  · exact .same _

theorem execEgressLinkUp_yields : Yields s (execEgressLinkUp s) :=
  .after s.keepsTables_beginReturn (.next (.of_eq rfl rfl rfl))

theorem execEgressLinkDown_yields : Yields s (execEgressLinkDown s) := by
  refine .after s.keepsTables_beginReturn ?_
  unfold execEgressLinkDown
  dsimp only
  split
  · exact .same _
  · exact .next (.startStall (.of_eq rfl rfl rfl))

theorem execEgressRead_yields (o : ReadOutcome) : Yields s (execEgressRead o s) := by
  refine .after s.keepsTables_beginReturn ?_
  unfold execEgressRead
  dsimp only
  split
  · next e _ begun _ _ =>
    have reported := s.beginReturn.keepsTables_reportRead o e.faultRecord
    exact .next (.startStall (reported.trans .of_eq))
  · exact .same _

theorem execEgressFrameBegin_yields : Yields s (execEgressFrameBegin s) := by
  refine .after s.keepsTables_beginReturn ?_
  unfold execEgressFrameBegin
  dsimp only
  split
  · split
    · exact .next (.of_eq rfl rfl rfl)
    · exact .same _
  · exact .same _

theorem execEgressFrameSent_yields : Yields s (execEgressFrameSent s) := by
  refine .after s.keepsTables_beginReturn ?_
  unfold execEgressFrameSent
  dsimp only
  split
  · exact .next (.startStall (.of_eq rfl rfl rfl))
  · split
    · exact .next (.startStall (.settleHold (.of_eq rfl rfl rfl)))
    · exact .next (.startStall (.of_eq rfl rfl rfl))
  · exact .same _

theorem execStallTimerExpiry_yields : Yields s (execStallTimerExpiry s) := by
  refine .after s.keepsTables_beginReturn ?_
  unfold execStallTimerExpiry
  dsimp only
  split
  · exact .next (.raise (.of_eq rfl rfl rfl))
  · exact .same _

theorem execDecodeDispatch_yields : Yields s (execDecodeDispatch s) := by
  refine .after s.keepsTables_beginReturn ?_
  unfold execDecodeDispatch
  dsimp only
  split
  · exact .next (State.keepsTables_startDecode _ _ _)
  · exact .same _

theorem execDecodeCompletion_yields (e : DecodeEngineId) (o : ReadOutcome) (decodable : Bool) :
    Yields s (execDecodeCompletion e o decodable s) := by
  refine .after s.keepsTables_beginReturn ?_
  unfold execDecodeCompletion
  dsimp only
  split
  · next d abandoned _ =>
    have drawn (good : Bool) : s.beginReturn.KeepsTables
        ((s.beginReturn.reportRead o d.faultRecord).drawDecoded d good) := .of_eq
    split
    · exact .next ((drawn _).trans (State.keepsTables_finishDecode _ _ _ _)).settleHold
    · exact .next ((drawn _).trans (State.keepsTables_abandonDecode _ _ _)).settleHold
  · exact .same _

theorem execTakeHeldPicture_yields : Yields s (execTakeHeldPicture s) := by
  refine .after s.keepsTables_beginReturn ?_
  unfold execTakeHeldPicture
  dsimp only
  split
  · exact .same _
  · split
    · next pic _ =>
      split
      · have taken := (s.beginReturn.keepsTables_takePicture pic).trans
          (State.keepsTables_clearDecode _ pic.channel)
        exact .next (taken.trans .of_eq)
      · exact .same _
    · exact .same _

theorem execEngineDispatch_yields : Yields s (execEngineDispatch s) := by
  refine .after s.keepsTables_beginReturn ?_
  unfold execEngineDispatch
  dsimp only
  split
  · split
    · exact .same _
    · split
      · split
        · exact .same _
        · split
          · exact .fault _
          · exact .next (State.keepsTables_startJob _ _ _ _ _)
      · exact .same _
  · exact .same _

theorem execSkipCompletion_yields (ch : ChannelId) (r : Fin 4) :
    Yields s (execSkipCompletion ch r s) := by
  refine .after s.keepsTables_beginReturn ?_
  unfold execSkipCompletion
  dsimp only
  split
  · split
    · split
      · exact .next (State.keepsTables_completeSkip _ _ _)
      · exact .same _
    · exact .same _
  · exact .same _

theorem execEncodeCompletion_yields (e : EncodeEngineId) (r : CompletionReport) :
    Yields s (execEncodeCompletion e r s) := by
  refine .after s.keepsTables_beginReturn ?_
  unfold execEncodeCompletion
  dsimp only
  split
  · split
    · split
      · exact .next (State.keepsTables_completeJob _ _ _ _ _ _).settleHold
      · exact .next (State.keepsTables_abandonJob _ _ _ _ _ _).settleHold
    · exact .same _
  · exact .same _

theorem execEncodeEngineRead_yields (e : EncodeEngineId) (r : EngineRead) (o : ReadOutcome) :
    Yields s (execEncodeEngineRead e r o s) := by
  refine .after s.keepsTables_beginReturn ?_
  unfold execEncodeEngineRead
  dsimp only
  split
  · split
    · exact .same _
    · exact .next .of_eq
  · exact .same _

theorem execSegmentRecord_yields (ch : ChannelId) : Yields s (execSegmentRecord ch s) := by
  refine .after s.keepsTables_beginReturn ?_
  unfold execSegmentRecord
  dsimp only
  split
  · exact .same _
  · split
    · exact .same _
    · exact .next (.of_rates rfl .of_contexts)

theorem execFinalSegmentClose_yields (ch : ChannelId) : Yields s (execFinalSegmentClose ch s) := by
  refine .after s.keepsTables_beginReturn ?_
  unfold execFinalSegmentClose
  dsimp only
  split
  · exact .same _
  · split
    · exact .next (.of_rates rfl ((Channel.keepsRates_modNewest _ _ _).trans .of_contexts))
    · exact .same _

theorem execDrainCompletion_yields (ch : ChannelId) : Yields s (execDrainCompletion ch s) := by
  refine .after s.keepsTables_beginReturn ?_
  unfold execDrainCompletion
  dsimp only
  split
  · exact .next (State.keepsTables_endChannel _ _ _).raise
  · exact .same _

theorem execAbortCompletion_yields (ch : ChannelId) : Yields s (execAbortCompletion ch s) :=
  .after s.keepsTables_beginReturn (.next (State.keepsTables_finishAbort _ _).raiseAll)

theorem execProcessAudioUnit_yields : Yields s (execProcessAudioUnit s) := by
  refine .after s.keepsTables_beginReturn ?_
  unfold execProcessAudioUnit
  dsimp only
  split
  · next u _ _ =>
    have evaluated := s.beginReturn.keepsTables_evaluateMarkers (s.beginReturn.smallMarked u 0)
    split
    · exact .same _
    · split
      · split
        · exact .same _
        · exact .next (evaluated.trans (State.keepsTables_sendAudio _ u)).releaseHead
      · exact .next evaluated.releaseHead
  · exact .same _

theorem execProcessCueUnit_yields : Yields s (execProcessCueUnit s) := by
  refine .after s.keepsTables_beginReturn ?_
  unfold execProcessCueUnit
  dsimp only
  split
  · split
    · exact .same _
    · split
      · exact .next (State.keepsTables_evaluateMarkers _ _).releaseHead
      · exact .next (.of_eq rfl rfl rfl)
  · exact .same _

theorem execIdleTimerExpiry_yields : Yields s (execIdleTimerExpiry s) := by
  refine .after s.keepsTables_beginReturn ?_
  unfold execIdleTimerExpiry
  dsimp only
  split
  · exact .next .of_eq
  · exact .same _

end Commands

/-! ### Every directive but LOAD PROFILE and SET LINK leaves the tables alone -/

section Directives
variable (b : List Byte) (s : State)

theorem takeQueryPart_keepsTables : s.KeepsTables (takeQueryPart b s).1 := .refl

theorem takeReadFaultLog_keepsTables : s.KeepsTables (takeReadFaultLog b s).1 := .refl

theorem takeClearFaultLog_keepsTables : s.KeepsTables (takeClearFaultLog b s).1 :=
  .of_eq rfl rfl rfl

theorem takeClearMatch_keepsTables : s.KeepsTables (takeClearMatch b s).1 := .of_eq rfl rfl rfl

theorem takeReadProfile_keepsTables : s.KeepsTables (takeReadProfile b s).1 := by
  unfold takeReadProfile; split <;> exact .refl

theorem takeReadWindow_keepsTables : s.KeepsTables (takeReadWindow b s).1 := by
  unfold takeReadWindow; split <;> exact .refl

theorem takeReadMarker_keepsTables : s.KeepsTables (takeReadMarker b s).1 := by
  unfold takeReadMarker; split <;> exact .refl

theorem takeQueryChannel_keepsTables : s.KeepsTables (takeQueryChannel b s).1 := by
  unfold takeQueryChannel; split <;> exact .refl

theorem takeLoadWindow_keepsTables : s.KeepsTables (takeLoadWindow b s).1 := by
  unfold takeLoadWindow
  split
  · exact .refl
  · split
    · exact .refl
    · exact .of_eq rfl rfl rfl

theorem takeLoadMarker_keepsTables : s.KeepsTables (takeLoadMarker b s).1 := by
  unfold takeLoadMarker
  split
  · exact .refl
  · split
    · exact .refl
    · exact .of_eq rfl rfl rfl

/-- R3: every context starts at half its buffer size. -/
theorem Channel.atOpen_rateOk (course : BitVec 24) (i : ProfileId) (p : Profile) (cls : Fin 4)
    (references : List SlotId) : (Channel.atOpen course i p cls references).RateOk p := by
  refine ⟨nofun, fun r x hx => ?_⟩
  have hx : (List.zipWith RenditionContext.atOpen p.renditions.toList references)[r.val]? =
    some x := hx
  rw [getElem?_contextsAtOpen] at hx
  obtain ⟨slot, -, rfl⟩ := Option.map_eq_some_iff.1 hx
  exact Nat.div_le_self _ 2

theorem State.keepsTables_openWith (ch : ChannelId) (course : BitVec 24) (p : ProfileId)
    (cls : Fin 4) : s.KeepsTables (s.openWith ch course p cls) :=
  .of_set rfl (fun _ => Channel.atOpen_rateOk course p s.profiles[p] cls _)

theorem takeOpen_keepsTables : s.KeepsTables (takeOpen b s).1 := by
  unfold takeOpen
  split
  · exact .refl
  · exact .refl
  · split
    · exact .refl
    · dsimp only
      split
      · exact .refl
      · split
        · exact .refl
        · split
          · exact .refl
          · exact s.keepsTables_openWith _ _ _ _

theorem takeClose_keepsTables : s.KeepsTables (takeClose b s).1 := by
  unfold takeClose
  split
  · exact .refl
  · split
    · exact .refl
    · exact .refl
    · exact .refl
    · exact .trans (.modChannel (.of_contexts rfl rfl (by simp)))
        (State.keepsTables_discardPartial _ _)

theorem takeAbort_keepsTables : s.KeepsTables (takeAbort b s).1 := by
  cases hch : objectNumber 32 (bodyNat b 0 1) with
  | none => rw [takeAbort_of_badChannel hch]; exact .refl
  | some ch =>
    have aborted := (s.keepsTables_abortWork ch).trans (State.keepsTables_finishAbort _ ch)
    cases hs : (s.channel ch).state with
    | closed => rw [takeAbort_of_closed hch hs]; exact .refl
    | aborting => rw [takeAbort_of_aborting hch hs]; exact .refl
    | running => rw [takeAbort_of_live hch (.inl hs)]; exact aborted
    | draining => rw [takeAbort_of_live hch (.inr hs)]; exact aborted

theorem State.keepsTables_enterHold (wait : Nat) (egressEmpty : Bool) :
    s.KeepsTables (s.enterHold wait egressEmpty).1 := by
  unfold State.enterHold
  dsimp only
  split
  · exact .decideHold (.of_eq rfl rfl rfl)
  · split
    · exact .of_eq
    · exact .of_eq rfl rfl rfl

theorem takeHold_keepsTables : s.KeepsTables (takeHold b s).1 := by
  unfold takeHold
  split
  · exact .refl
  · split
    · exact .refl
    · split
      · exact .refl
      · exact s.keepsTables_enterHold _ _

theorem takeRelease_keepsTables : s.KeepsTables (takeRelease b s).1 := by
  unfold takeRelease
  split
  · exact .refl
  · exact .of_eq
  · exact .of_eq

/-- R19 and R68: with every record cleared the fullness bound holds. -/
theorem State.fullnessOk_of_cleared {s : State}
    (h : s.channels = Vector.replicate 32 Channel.cleared) : s.FullnessOk := by
  refine s.fullnessOk_iff.2 fun ch => ?_
  have record : s.channel ch = Channel.cleared := by simp [State.channel, h]
  rw [record]
  exact Channel.rateOk_of_noContexts rfl _

theorem takeRestart_keepsTables : s.KeepsTables (takeRestart b s).1 :=
  ⟨rfl, rfl, fun _ => State.fullnessOk_of_cleared rfl⟩

end Directives

/-! ### What every command but power-on reset does to the tables -/

/-- R24, R26, R68 and R155: what holds of every command short of power-on reset. -/
structure State.GuardsTables (s t : State) : Prop where
  locked : ∀ p : ProfileId, s.profileInUse p = true → t.profiles[p] = s.profiles[p]
  inRange : s.TablesInRange → t.TablesInRange
  fullness : s.FullnessOk → t.FullnessOk

theorem State.tablesInRange_congr {s t : State} (hp : t.profiles = s.profiles)
    (hs : t.settings = s.settings) : s.TablesInRange → t.TablesInRange := by
  simp only [State.TablesInRange, hp, hs, imp_self]

theorem State.KeepsTables.guards {s t : State} (h : s.KeepsTables t) : s.GuardsTables t :=
  ⟨fun _ _ => by rw [h.profiles], State.tablesInRange_congr h.profiles h.settings, h.fullness⟩

/-- What a directive's own rule guards, its command guards: nothing before the rule rewrites a
channel record. -/
theorem State.GuardsTables.within {s u v t : State} (before : s.KeepsTables u)
    (hc : u.channels = s.channels) (h : u.GuardsTables v) (after : v.KeepsTables t) :
    s.GuardsTables t := by
  refine ⟨fun p used => ?_, fun ok => ?_,
    fun ok => after.fullness (h.fullness (before.fullness ok))⟩
  · have used' : u.profileInUse p = true := by
      rw [State.profileInUse, hc]; exact used
    rw [after.profiles, h.locked p used', before.profiles]
  · exact State.tablesInRange_congr after.profiles after.settings
      (h.inRange (State.tablesInRange_congr before.profiles before.settings ok))

/-! ### Directives -/

theorem State.admitDirective_ended {s t : State} {f : DirectiveFrame}
    (h : s.admitDirective f = .ended t) : s.KeepsTables t := by
  unfold State.admitDirective at h
  split at h
  · exact nomatch h
  · split at h
    · cases h; exact .refl
    · split at h
      · exact Admission.ended.inj h ▸ s.keepsTables_headerFailure
      · split at h
        · cases h; exact .of_eq
        · dsimp only at h
          split at h
          · exact nomatch h
          · cases h; exact .of_eq rfl rfl rfl

theorem State.admitDirective_admitted {s t : State} {f : DirectiveFrame}
    (h : s.admitDirective f = .admitted t) : s.KeepsTables t ∧ t.channels = s.channels := by
  unfold State.admitDirective at h
  split at h
  · cases h; exact ⟨.refl, rfl⟩
  · split at h
    · exact nomatch h
    · split at h
      · exact nomatch h
      · split at h
        · exact nomatch h
        · dsimp only at h
          split at h
          · cases h; exact ⟨.of_eq rfl rfl rfl, rfl⟩
          · exact nomatch h

/-- A directive frame's command guards the tables when the directive's own rule does. -/
theorem runDirective_guards {code : Byte} {n : Nat} {act : List Byte → State → State × Answer}
    {f : DirectiveFrame} {s t : State}
    (hact : ∀ (b : List Byte) (u : State), u.GuardsTables (act b u).1)
    (h : runDirective code n act f s = .next t) : s.GuardsTables t := by
  unfold runDirective at h
  split at h
  · next ended =>
    cases h
    exact (s.keepsTables_beginReturn.trans (State.admitDirective_ended ended)).guards
  · next u admitted =>
    obtain ⟨kept, channels⟩ := State.admitDirective_admitted admitted
    have before := s.keepsTables_beginReturn.trans kept
    rw [State.beginReturn_channels] at channels
    cases h
    unfold State.takeDirective
    split
    · exact (before.trans .of_eq).guards
    · exact .within before channels (hact f.payload.bytes u) (.raiseAll .of_eq)

theorem execUnknownDirective_yields (code : Byte) (f : DirectiveFrame) (s : State) :
    Yields s (execUnknownDirective code f s) := by
  unfold execUnknownDirective
  split
  · exact .same s
  · refine .after s.keepsTables_beginReturn ?_
    split
    · next ended => exact .next (State.admitDirective_ended ended)
    · next admitted => exact .next ((State.admitDirective_admitted admitted).1.trans .of_eq)

/-! ### SET LINK and LOAD PROFILE, which write the tables -/

theorem firstBad_eq_none_iff (l : List (Nat × Bool)) :
    firstBad l = none ↔ ∀ c ∈ l, c.2 = true := by
  simp [firstBad]

/-- R155: the checks of SET LINK pass exactly on settings in range. -/
theorem LinkSettings.firstBad_eq_none_iff (l : LinkSettings) : l.firstBad = none ↔ l.InRange := by
  rw [LinkSettings.firstBad, Machine.firstBad_eq_none_iff]
  simp [inRange_iff, LinkSettings.InRange, and_assoc]

theorem takeSetLink_guards (b : List Byte) (s : State) : s.GuardsTables (takeSetLink b s).1 := by
  unfold takeSetLink
  dsimp only
  split
  · exact State.KeepsTables.refl.guards
  · next passed =>
    refine ⟨fun p _ => by rw [State.startStall_profiles], fun ok => ?_, fun ok => ?_⟩
    · have loaded : State.TablesInRange { s with settings := readLinkSettings b } :=
        ⟨(LinkSettings.firstBad_eq_none_iff _).1 passed, ok.2⟩
      exact State.tablesInRange_congr (State.startStall_profiles _) (State.startStall_settings _)
        loaded
    · have same : State.FullnessOk { s with settings := readLinkSettings b } := ok
      exact (State.KeepsTables.startStall .refl).fullness same

/-- R22 to R25: LOAD PROFILE changes nothing, or stores a record, in range if valid, in a profile
that is not in use. -/
theorem takeLoadProfile_cases (b : List Byte) (s : State) :
    (takeLoadProfile b s).1 = s
      ∨ ∃ p : ProfileId, s.profileInUse p = false
        ∧ ((readProfileRecord b).valid = true → (readProfileRecord b).InRange)
        ∧ (takeLoadProfile b s).1 =
          { s with profiles := s.profiles.set p (readProfileRecord b) } := by
  unfold takeLoadProfile
  split
  · exact .inl rfl
  · next p _ =>
    split
    · exact .inl rfl
    · next unused =>
      have free : s.profileInUse p = false := Bool.not_eq_true _ ▸ unused
      split
      · exact .inl rfl
      · dsimp only
        split
        · next invalid =>
          refine .inr ⟨p, free, fun valid => ?_, rfl⟩
          rw [valid] at invalid
          exact nomatch invalid
        · split
          · exact .inl rfl
          · next passed =>
            exact .inr ⟨p, free, fun _ => (Profile.firstBad_eq_none_iff _).1 passed, rfl⟩

theorem State.stored_profile (s : State) (p q : ProfileId) (x : Profile) :
    (s.profiles.set p x)[q] = if q = p then x else s.profiles[q] := by
  simp only [Fin.getElem_fin, Vector.getElem_set, eq_comm (a := p.val), Fin.ext_iff]

theorem takeLoadProfile_guards (b : List Byte) (s : State) :
    s.GuardsTables (takeLoadProfile b s).1 := by
  rcases takeLoadProfile_cases b s with same | ⟨p, free, good, stored⟩
  · rw [same]; exact State.KeepsTables.refl.guards
  rw [stored]
  refine ⟨fun q used => ?_, fun ok => ⟨ok.1, fun q => ?_⟩, fun ok => ?_⟩
  · have ne : q ≠ p := by
      rintro rfl; exact Bool.false_ne_true (free.symm.trans used)
    exact (s.stored_profile p q _).trans (if_neg ne)
  · rw [s.stored_profile]
    split
    · exact good
    · exact ok.2 q
  · refine State.fullnessOk_iff _ |>.2 fun ch => ?_
    by_cases closed : (s.channel ch).state = .closed
    · exact Channel.rateOk_of_noContexts ((ok ch).1 closed) _
    · have ne : (s.channel ch).profile ≠ p := fun h =>
        Bool.false_ne_true (free.symm.trans ((s.profileInUse_iff p).2 ⟨ch, closed, h⟩))
      have kept :=
        (s.stored_profile p (s.channel ch).profile (readProfileRecord b)).trans (if_neg ne)
      show (s.channel ch).RateOk (s.profiles.set p (readProfileRecord b))[(s.channel ch).profile]
      rw [kept]
      exact ok ch

/-! ### The statements (sections 2.2 and 2.3) -/

theorem Yields.guards {s t : State} {o : Host.Outcome State Fault Refusal} (h : Yields s o)
    (ht : o = .next t) : s.GuardsTables t := (h t ht).guards

/-- Every command short of power-on reset guards the tables. -/
theorem exec_guards {c : Instr} {s t : State} (h : exec c s = .next t) (hc : c ≠ .powerOnReset) :
    s.GuardsTables t := by
  cases c with
  | setLink f => exact runDirective_guards takeSetLink_guards h
  | queryPart f => exact runDirective_guards (fun b u => (takeQueryPart_keepsTables b u).guards) h
  | loadProfile f => exact runDirective_guards takeLoadProfile_guards h
  | readProfile f =>
    exact runDirective_guards (fun b u => (takeReadProfile_keepsTables b u).guards) h
  | loadWindow f => exact runDirective_guards (fun b u => (takeLoadWindow_keepsTables b u).guards) h
  | readWindow f => exact runDirective_guards (fun b u => (takeReadWindow_keepsTables b u).guards) h
  | loadMarker f => exact runDirective_guards (fun b u => (takeLoadMarker_keepsTables b u).guards) h
  | readMarker f => exact runDirective_guards (fun b u => (takeReadMarker_keepsTables b u).guards) h
  | clearMatch f => exact runDirective_guards (fun b u => (takeClearMatch_keepsTables b u).guards) h
  | openChannel f => exact runDirective_guards (fun b u => (takeOpen_keepsTables b u).guards) h
  | closeChannel f => exact runDirective_guards (fun b u => (takeClose_keepsTables b u).guards) h
  | abortChannel f => exact runDirective_guards (fun b u => (takeAbort_keepsTables b u).guards) h
  | queryChannel f =>
    exact runDirective_guards (fun b u => (takeQueryChannel_keepsTables b u).guards) h
  | readFaultLog f =>
    exact runDirective_guards (fun b u => (takeReadFaultLog_keepsTables b u).guards) h
  | clearFaultLog f =>
    exact runDirective_guards (fun b u => (takeClearFaultLog_keepsTables b u).guards) h
  | hold f => exact runDirective_guards (fun b u => (takeHold_keepsTables b u).guards) h
  | release f => exact runDirective_guards (fun b u => (takeRelease_keepsTables b u).guards) h
  | restart f => exact runDirective_guards (fun b u => (takeRestart_keepsTables b u).guards) h
  | unknownDirective code f => exact (execUnknownDirective_yields code f s).guards h
  | pictureStartFrame p f => exact (execPictureStartFrame_yields s p f).guards h
  | pictureContinuationFrame p f => exact (execPictureContinuationFrame_yields s p f).guards h
  | smallUnitFrame k p f => exact (execSmallUnitFrame_yields s k p f).guards h
  | headerCheckFailure header => exact (execHeaderCheckFailure_yields s header).guards h
  | ingestLinkUp => exact (execIngestLinkUp_yields s).guards h
  | ingestLinkDown n => exact (execIngestLinkDown_yields s n).guards h
  | pictureCreditGrant => exact (execPictureCreditGrant_yields s).guards h
  | smallCreditGrant => exact (execSmallCreditGrant_yields s).guards h
  | directiveCreditGrant => exact (execDirectiveCreditGrant_yields s).guards h
  | creditFrameSent => exact (execCreditFrameSent_yields s).guards h
  | reportFrameSent => exact (execReportFrameSent_yields s).guards h
  | egressCredit f => exact (execEgressCredit_yields s f).guards h
  | egressLinkUp => exact (execEgressLinkUp_yields s).guards h
  | egressLinkDown => exact (execEgressLinkDown_yields s).guards h
  | egressRead o => exact (execEgressRead_yields s o).guards h
  | egressFrameBegin => exact (execEgressFrameBegin_yields s).guards h
  | egressFrameSent => exact (execEgressFrameSent_yields s).guards h
  | stallTimerExpiry => exact (execStallTimerExpiry_yields s).guards h
  | decodeDispatch => exact (execDecodeDispatch_yields s).guards h
  | decodeCompletion e o d => exact (execDecodeCompletion_yields s e o d).guards h
  | takeHeldPicture => exact (execTakeHeldPicture_yields s).guards h
  | engineDispatch => exact (execEngineDispatch_yields s).guards h
  | skipCompletion ch r => exact (execSkipCompletion_yields s ch r).guards h
  | encodeCompletion e r => exact (execEncodeCompletion_yields s e r).guards h
  | segmentRecord ch => exact (execSegmentRecord_yields s ch).guards h
  | finalSegmentClose ch => exact (execFinalSegmentClose_yields s ch).guards h
  | drainCompletion ch => exact (execDrainCompletion_yields s ch).guards h
  | abortCompletion ch => exact (execAbortCompletion_yields s ch).guards h
  | processCueUnit => exact (execProcessCueUnit_yields s).guards h
  | processAudioUnit => exact (execProcessAudioUnit_yields s).guards h
  | idleTimerExpiry => exact (execIdleTimerExpiry_yields s).guards h
  | powerOnReset => exact absurd rfl hc
  | encodeEngineRead e r o => exact (execEncodeEngineRead_yields s e r o).guards h
  | unitKindNoneFrame p f => exact (execUnitKindNoneFrame_yields s p f).guards h

/-- R163: power-on reset makes every profile invalid and the settings those of power-on. -/
theorem State.tablesInRange_of_reset {s : State}
    (hp : s.profiles = Vector.replicate 16 Profile.zero)
    (hs : s.settings = LinkSettings.powerOn) : s.TablesInRange := by
  refine ⟨by rw [hs]; simp [LinkSettings.powerOn, LinkSettings.InRange], fun p valid => ?_⟩
  simp [hp, Profile.zero] at valid

/-- Every command keeps the tables in range and the fullness within the buffers. -/
theorem exec_keepsInvariants {c : Instr} {s t : State} (h : exec c s = .next t) :
    (s.TablesInRange → t.TablesInRange) ∧ (s.FullnessOk → t.FullnessOk) := by
  by_cases hc : c = .powerOnReset
  · subst hc
    cases h
    exact ⟨fun _ => State.tablesInRange_of_reset rfl rfl, fun _ => State.fullnessOk_of_cleared rfl⟩
  · exact ⟨(exec_guards h hc).inRange, (exec_guards h hc).fullness⟩

/-- Settles O10: a step is a command on the rest of the queue, which plays no part in either
invariant. -/
theorem tablesKeepTheirRanges : Obligations.TablesKeepTheirRanges := by
  have kept {s t : State} (h : step s = .next t) :
      (s.TablesInRange → t.TablesInRange) ∧ (s.FullnessOk → t.FullnessOk) := by
    unfold step at h
    split at h
    · cases h; exact ⟨id, id⟩
    · have kept := exec_keepsInvariants h
      exact kept
  exact ⟨fun s t ok h => (kept h).1 ok, fun s t ok h => (kept h).2 ok⟩

/-- Settles O11: LOAD PROFILE alone writes a profile, and not one in use. -/
theorem referencedProfileIsLocked : Obligations.ReferencedProfileIsLocked := by
  intro c s t p h hc used
  exact (exec_guards h hc).locked p ((s.profileInUse_iff p).2 used)

end Sys2Proof.Machine

/-! SUPPORT. Segments and markers (chapter 3): what the evaluation of a unit by the markers does,
LOAD MARKER, CLEAR MATCH and CLEAR FAULT LOG, the segmenter's work on a picture, and how an entry
leaves the segment table. -/

namespace Sys2Proof.Machine

/-! ### When a marker matches (R52) -/

theorem Marker.hits_iff (m : Marker) (u : MarkedUnit) :
    m.hits u = true ↔
      m.enabled = true ∧ m.kinds.getLsbD (kindBit u.kind) = true
        ∧ AgreeWhereZero (BitVec.ofNat 5 u.channel.val) m.channelValue m.channelMask
        ∧ AgreeWhereZero (u.selected m.field) m.compareValue m.compareMask := by
  simp only [Marker.hits, Bool.and_eq_true, agreeOutside_iff, and_assoc]

/-! ### What the evaluation of a unit writes (R53 to R55) -/

/-- The part with new match flags, new reports and a new cut pending of a channel. -/
def State.withMarks (s : State) (flags : Vector Bool 4) (reports : ReportQueue) (ch : ChannelId)
    (pending : Option CutPending) : State :=
  { s with
    matchFlags := flags
    reports := reports
    channels := s.channels.set ch { s.channel ch with cutPending := pending } }

theorem State.channel_withMarks (s : State) (flags : Vector Bool 4) (reports : ReportQueue)
    (ch : ChannelId) (pending : Option CutPending) :
    (s.withMarks flags reports ch pending).channel ch =
      { s.channel ch with cutPending := pending } := by
  simp [State.withMarks, State.channel]

theorem State.withMarks_withMarks (s : State) (flags flags' : Vector Bool 4)
    (reports reports' : ReportQueue) (ch : ChannelId) (pending pending' : Option CutPending) :
    (s.withMarks flags reports ch pending).withMarks flags' reports' ch pending' =
      s.withMarks flags' reports' ch pending' := by
  rw [State.withMarks, State.channel_withMarks]
  simp [State.withMarks]

/-- The channel's cut pending written as it stands. -/
theorem State.withMarks_pending {s : State} {flags : Vector Bool 4} {reports : ReportQueue}
    {ch : ChannelId} :
    s.withMarks flags reports ch (s.channel ch).cutPending =
      { s with matchFlags := flags, reports := reports } :=
  State.modChannel_of_fixed (s := { s with matchFlags := flags, reports := reports })
    (f := fun c => { c with cutPending := (s.channel ch).cutPending }) rfl

theorem State.withMarks_self (s : State) (ch : ChannelId) :
    s.withMarks s.matchFlags s.reports ch (s.channel ch).cutPending = s :=
  State.withMarks_pending

/-- R53: the flags after marker `i` has been held against the unit. -/
def flagMarker (ms : Vector Marker 4) (u : MarkedUnit) (flags : Vector Bool 4) (i : MarkerId) :
    Vector Bool 4 :=
  if ms[i].hits u then flags.set i true else flags

/-- R53: the part offered marker `i`'s MARK event. -/
def State.offerMark (ms : Vector Marker 4) (u : MarkedUnit) (s : State) (i : MarkerId) : State :=
  if ms[i].hits u = true ∧ ms[i].report = true then s.raise (.mark i u.channel u.kind u.time)
  else s

/-- R54 and R55: the cut pending after marker `i` has been held against the unit. -/
def requestCut (ms : Vector Marker 4) (u : MarkedUnit) (pending : Option CutPending)
    (i : MarkerId) : Option CutPending :=
  if ms[i].hits u = true ∧ ms[i].action ≠ .none then
    some (mergeRequest pending (requestTime ms[i].action u)
      (if ms[i].chapter then some i else none))
  else pending

section
variable {ms : Vector Marker 4} {u : MarkedUnit} {i : MarkerId}

theorem flagMarker_of_hit (h : ms[i].hits u = true) (flags : Vector Bool 4) :
    flagMarker ms u flags i = flags.set i true := if_pos h

theorem flagMarker_of_miss (h : ¬ ms[i].hits u = true) (flags : Vector Bool 4) :
    flagMarker ms u flags i = flags := if_neg h

theorem requestCut_of_request (h : ms[i].hits u = true ∧ ms[i].action ≠ .none)
    (pending : Option CutPending) :
    requestCut ms u pending i = some (mergeRequest pending (requestTime ms[i].action u)
      (if ms[i].chapter then some i else none)) := if_pos h

theorem requestCut_of_no_request (h : ¬ (ms[i].hits u = true ∧ ms[i].action ≠ .none))
    (pending : Option CutPending) : requestCut ms u pending i = pending := if_neg h

end

/-- One marker held against a unit, R52 and R53. -/
def State.evaluateMarker (u : MarkedUnit) (s : State) (i : MarkerId) : State :=
  if s.markers[i].hits u then s.markerMatch i u else s

theorem State.raise_eq (s : State) (e : Event) :
    s.raise e = { s with reports := (s.raise e).reports } := by
  unfold State.raise; split <;> rfl

/-- R152: whether an event enters depends on the report queue and the directive credits alone. -/
theorem State.raise_reports_congr {s t : State} (hr : s.reports = t.reports)
    (hi : s.ingest = t.ingest) (e : Event) : (s.raise e).reports = (t.raise e).reports := by
  have count : s.reportCount = t.reportCount := by rw [State.reportCount, hr, hi]; rfl
  unfold State.raise
  rw [count, hr]
  split <;> rfl

theorem State.raise_eq_of_reports {s t : State} (hr : s.reports = t.reports)
    (hi : s.ingest = t.ingest) (e : Event) :
    s.raise e = { s with reports := (t.raise e).reports } := by
  rw [← State.raise_reports_congr hr hi]; exact s.raise_eq e

theorem State.offerMark_eq (ms : Vector Marker 4) (u : MarkedUnit) (s : State) (i : MarkerId) :
    s.offerMark ms u i = { s with reports := (s.offerMark ms u i).reports } := by
  unfold State.offerMark
  split
  · exact s.raise_eq _
  · rfl

/-- R53: the match of one marker, its three effects at once. -/
theorem State.markerMatch_eq {s : State} {i : MarkerId} {u : MarkedUnit}
    (h : s.markers[i].hits u = true) :
    s.markerMatch i u = s.withMarks (s.matchFlags.set i true) (s.offerMark s.markers u i).reports
      u.channel (requestCut s.markers u (s.channel u.channel).cutPending i) := by
  have reported : (if s.markers[i].report then
        State.raise { s with matchFlags := s.matchFlags.set i true }
          (.mark i u.channel u.kind u.time)
      else { s with matchFlags := s.matchFlags.set i true }) =
      { s with matchFlags := s.matchFlags.set i true
               reports := (s.offerMark s.markers u i).reports } := by
    unfold State.offerMark
    split
    · next hr =>
      rw [if_pos ⟨h, hr⟩]
      exact State.raise_eq_of_reports (s := { s with matchFlags := s.matchFlags.set i true })
        (t := s) rfl rfl _
    · next hr => rw [if_neg (fun both => hr both.2)]
  unfold State.markerMatch
  dsimp only
  rw [reported]
  split
  · next ha => rw [requestCut_of_no_request (fun both => both.2 ha)]; exact withMarks_pending.symm
  · next ha => rw [requestCut_of_request ⟨h, by rw [ha]; nofun⟩]; rfl
  · next ha => rw [requestCut_of_request ⟨h, by rw [ha]; nofun⟩]; rfl

theorem State.evaluateMarker_eq (s : State) (u : MarkedUnit) (i : MarkerId) :
    s.evaluateMarker u i = s.withMarks (flagMarker s.markers u s.matchFlags i)
      (s.offerMark s.markers u i).reports u.channel
      (requestCut s.markers u (s.channel u.channel).cutPending i) := by
  unfold State.evaluateMarker
  by_cases h : s.markers[i].hits u = true
  · rw [if_pos h, State.markerMatch_eq h, flagMarker_of_hit h]
  · rw [if_neg h, flagMarker_of_miss h, State.offerMark, if_neg (fun both => h both.1),
      requestCut_of_no_request (fun both => h both.1), State.withMarks_self]

theorem State.offerMarks_reports_congr (ms : Vector Marker 4) (u : MarkedUnit)
    (l : List MarkerId) : ∀ {s t : State}, s.reports = t.reports → s.ingest = t.ingest →
      (l.foldl (State.offerMark ms u) s).reports = (l.foldl (State.offerMark ms u) t).reports := by
  induction l with
  | nil => exact fun hr _ => hr
  | cons i l ih =>
    intro s t hr hi
    refine ih ?_ ?_
    · unfold State.offerMark
      split
      · exact State.raise_reports_congr hr hi _
      · exact hr
    · rw [s.offerMark_eq, t.offerMark_eq]; exact hi

/-- R52 to R55: the evaluation of a unit by the markers of a list, in order. -/
theorem State.foldl_evaluateMarker (u : MarkedUnit) (l : List MarkerId) :
    ∀ s : State, l.foldl (State.evaluateMarker u) s =
      s.withMarks (l.foldl (flagMarker s.markers u) s.matchFlags)
        (l.foldl (State.offerMark s.markers u) s).reports u.channel
        (l.foldl (requestCut s.markers u) (s.channel u.channel).cutPending) := by
  induction l with
  | nil => exact fun s => (s.withMarks_self u.channel).symm
  | cons i l ih =>
    intro s
    rw [List.foldl_cons, ih, State.evaluateMarker_eq, State.withMarks_withMarks,
      State.channel_withMarks]
    have offered : (l.foldl (State.offerMark s.markers u) (s.evaluateMarker u i)).reports =
        (l.foldl (State.offerMark s.markers u) (s.offerMark s.markers u i)).reports := by
      refine State.offerMarks_reports_congr _ _ _ ?_ ?_
      · rw [State.evaluateMarker_eq]; rfl
      · rw [State.evaluateMarker_eq, State.offerMark_eq]; rfl
    rw [State.evaluateMarker_eq] at offered
    exact congrArg (fun r => s.withMarks _ r u.channel _) offered

theorem State.evaluateMarkers_eq (s : State) (u : MarkedUnit) :
    s.evaluateMarkers u =
      s.withMarks ((List.finRange 4).foldl (flagMarker s.markers u) s.matchFlags)
        ((List.finRange 4).foldl (State.offerMark s.markers u) s).reports u.channel
        ((List.finRange 4).foldl (requestCut s.markers u) (s.channel u.channel).cutPending) :=
  State.foldl_evaluateMarker u _ s

theorem getElem_foldl_flagMarker (ms : Vector Marker 4) (u : MarkedUnit) (i : MarkerId)
    (l : List MarkerId) : ∀ flags : Vector Bool 4,
      (l.foldl (flagMarker ms u) flags)[i] = (flags[i] || (decide (i ∈ l) && ms[i].hits u)) := by
  induction l with
  | nil => intro flags; simp
  | cons j l ih =>
    intro flags
    have step : (flagMarker ms u flags j)[i] = (flags[i] || (decide (i = j) && ms[i].hits u)) := by
      by_cases hit : ms[j].hits u = true
      · rw [flagMarker_of_hit hit]
        by_cases hij : i = j
        · subst hij; rw [hit]; simp
        · simp [hij, Fin.val_inj, eq_comm (a := j)]
      · rw [flagMarker_of_miss hit]
        by_cases hij : i = j
        · subst hij; rw [Bool.eq_false_iff.2 hit]; simp
        · simp [hij]
    rw [List.foldl_cons, ih, step]
    cases flags[i] <;> cases ms[i].hits u <;> simp [List.mem_cons]

/-- R54 and R55 in the words of the statement: the request's time, and the merge. -/
theorem requestCut_eq (ms : Vector Marker 4) (u : MarkedUnit) (p : Option CutPending)
    (i : MarkerId) :
    requestCut ms u p i =
      if ms[i].hits u = true ∧ ms[i].action ≠ .none then
        let t := if u.kind = .picture ∧ ms[i].action = .cutNext then u.time + 1 else u.time
        let chapter := if ms[i].chapter then some i else none
        some (match p with
          | none => { notBefore := t, chapter := chapter }
          | some q => { notBefore := min q.notBefore t,
                        chapter := if q.chapter.isSome then q.chapter else chapter })
      else p := by
  have time : requestTime ms[i].action u =
      if u.kind = .picture ∧ ms[i].action = .cutNext then u.time + 1 else u.time := by
    cases hk : u.kind <;> cases ha : ms[i].action <;> simp [requestTime, hk]
  have merge (notBefore : Nat) (chapter : Option MarkerId) : mergeRequest p notBefore chapter =
      (match p with
        | none => { notBefore := notBefore, chapter := chapter }
        | some q => { notBefore := min q.notBefore notBefore,
                      chapter := if q.chapter.isSome then q.chapter else chapter }) := by
    rcases p with _ | ⟨notBefore, _ | m⟩ <;> rfl
  rw [requestCut, merge, time]

/-- Settles O16: the fold over the four markers writes the flags, the reports and the channel's cut
pending, each by a fold of its own. -/
theorem markersAreEvaluated : Obligations.MarkersAreEvaluated := by
  refine ⟨fun m u => ?_, fun s u => ?_⟩
  · rw [Marker.hits_iff]
    cases u.kind <;> cases m.field <;> rfl
  have eval := s.evaluateMarkers_eq u
  have cut : ((s.evaluateMarkers u).channel u.channel).cutPending =
      (List.finRange 4).foldl (requestCut s.markers u) (s.channel u.channel).cutPending := by
    rw [eval, State.channel_withMarks]
  refine ⟨fun i => ?_, ?_, ?_, ?_⟩
  · rw [eval]
    exact (getElem_foldl_flagMarker s.markers u i _ s.matchFlags).trans (by simp)
  · rw [cut]
    exact congrArg (fun f => (List.finRange 4).foldl f (s.channel u.channel).cutPending)
      (funext fun p => funext fun i => requestCut_eq s.markers u p i)
  · rw [eval]; rfl
  · rw [cut, eval]; rfl

/-! ### LOAD MARKER (R56) -/

/-- R56: the order of the checks after the marker's index: the enabled field, then the compared
field, the action, the report field and the chapter field. -/
theorem markerBad_eq {b : List Byte} (hl : 9 ≤ b.length) :
    markerBad b =
      if (byteAt b 1).toNat ≤ 1 then
        if (byteAt b 5).toNat ≤ 2 then
          if (byteAt b 6).toNat ≤ 2 then
            if (byteAt b 7).toNat ≤ 1 then
              if (byteAt b 8).toNat ≤ 1 then none else some 10
            else some 9
          else some 8
        else some 5
      else some 1 := by
  have flag {o : Nat} (ho : o < 9) : isFlag (bodyNat b o 1) = true ↔ (byteAt b o).toNat ≤ 1 := by
    rw [isFlag_iff, bodyNat_byte b o (by omega)]
  have choice {o : Nat} (ho : o < 9) :
      inRange 0 2 (bodyNat b o 1) = true ↔ (byteAt b o).toNat ≤ 2 := by
    rw [Machine.inRange_iff, bodyNat_byte b o (by omega)]; omega
  simp only [markerBad, firstBad_cons, flag (o := 1) (by decide), choice (o := 5) (by decide),
    choice (o := 6) (by decide), flag (o := 7) (by decide), flag (o := 8) (by decide)]
  rfl

section LoadMarker
variable {b : List Byte} {s : State} {m : MarkerId}

theorem takeLoadMarker_of_badNumber (h : objectNumber 4 (bodyNat b 0 1) = none) :
    takeLoadMarker b s = (s, Answer.of (.badField 0)) := by
  rw [takeLoadMarker, h]

variable (hm : objectNumber 4 (bodyNat b 0 1) = some m)
include hm

theorem takeLoadMarker_of_badField {n : Nat} (h : markerBad b = some n) :
    takeLoadMarker b s = (s, Answer.of (.badField n)) := by
  simp only [takeLoadMarker, hm, h]

theorem takeLoadMarker_of_good (h : markerBad b = none) :
    takeLoadMarker b s =
      ({ s with markers := s.markers.set m (readMarkerRecord b) }, Answer.of .done) := by
  simp only [takeLoadMarker, hm, h]

end LoadMarker

/-- R166: the marker layout, byte by byte. -/
theorem readMarkerRecord_eq {b : List Byte} (hl : 9 ≤ b.length) :
    readMarkerRecord b =
      { enabled := decide ((byteAt b 1).toNat = 1)
        kinds := (byteAt b 2).setWidth 3
        channelValue := (byteAt b 3).setWidth 5
        channelMask := (byteAt b 4).setWidth 5
        field := if (byteAt b 5).toNat = 0 then .timestamp
          else if (byteAt b 5).toNat = 1 then .flags else .code
        compareValue := BitVec.ofNat 32 (beNat (field b 12 4))
        compareMask := BitVec.ofNat 32 (beNat (field b 16 4))
        action := if (byteAt b 6).toNat = 0 then .none
          else if (byteAt b 6).toNat = 1 then .cutAt else .cutNext
        report := decide ((byteAt b 7).toNat = 1)
        chapter := decide ((byteAt b 8).toNat = 1) } := by
  have byte {o : Nat} (ho : o < 9) : bodyNat b o 1 = (byteAt b o).toNat :=
    bodyNat_byte b o (by omega)
  simp only [readMarkerRecord, byte (o := 1) (by decide), byte (o := 2) (by decide),
    byte (o := 3) (by decide), byte (o := 4) (by decide), byte (o := 5) (by decide),
    byte (o := 6) (by decide), byte (o := 7) (by decide), byte (o := 8) (by decide),
    BitVec.ofNat_toNat]
  congr 1
  · rcases (byteAt b 5).toNat with _ | _ | n <;> rfl
  · rcases (byteAt b 6).toNat with _ | _ | n <;> rfl

/-- Settles O28: `markerBad_eq` gives the order of the checks, `readMarkerRecord_eq` the record. -/
theorem loadMarkerStoresOrRefuses : Obligations.LoadMarkerStoresOrRefuses := by
  intro f s hands len b enabled fieldCode action report chapter bad
  have hlen : b.length = 20 := len
  refine ⟨fun hn => ?_, fun m hn => ?_⟩
  · exact runDirective_of_refusal hands len codeLoadMarker
      (takeLoadMarker_of_badNumber (objectNumber_byte_none (by omega) hn))
  have hm := objectNumber_byte (by omega) hn
  have checks := markerBad_eq (b := b) (by omega)
  have refuse {n : Nat} (h : markerBad b = some n) : exec (.loadMarker f) s = .next (bad n) :=
    runDirective_of_refusal hands len codeLoadMarker (takeLoadMarker_of_badField hm h)
  refine ⟨fun h1 => refuse ?_, fun h1 h5 => refuse ?_, fun h1 h5 h6 => refuse ?_,
    fun h1 h5 h6 h7 => refuse ?_, fun h1 h5 h6 h7 h8 => refuse ?_, fun h1 h5 h6 h7 h8 => ?_⟩
  · rw [checks, if_neg (Nat.not_le.2 h1)]
  · rw [checks, if_pos h1, if_neg (Nat.not_le.2 h5)]
  · rw [checks, if_pos h1, if_pos h5, if_neg (Nat.not_le.2 h6)]
  · rw [checks, if_pos h1, if_pos h5, if_pos h6, if_neg (Nat.not_le.2 h7)]
  · rw [checks, if_pos h1, if_pos h5, if_pos h6, if_pos h7, if_neg (Nat.not_le.2 h8)]
  · intro record
    have passed : markerBad b = none := by
      rw [checks, if_pos h1, if_pos h5, if_pos h6, if_pos h7, if_pos h8]
    have taken := runDirective_of_answer hands len codeLoadMarker
      (takeLoadMarker_of_good hm passed)
    rw [readMarkerRecord_eq (by omega), s.taking_markers] at taken
    exact taken

/-! ### CLEAR MATCH and CLEAR FAULT LOG (R58, R103) -/

theorem getElem_clearedFlags (flags : Vector Bool 4) (named : Byte) (m : MarkerId) :
    (clearedFlags flags named)[m] = if named.getLsbD m.val = true then false else flags[m] := by
  cases h : named.getLsbD m.val <;> simp [clearedFlags, h]

/-- Settles O29: neither directive has a check to fail. -/
theorem clearMatchAndClearFaultLog : Obligations.ClearMatchAndClearFaultLog := by
  intro f s hands len
  refine ⟨⟨clearedFlags s.matchFlags (byteAt f.payload.bytes 0), ?_, getElem_clearedFlags _ _⟩, ?_⟩
  · have cleared := runDirective_of_answer (act := takeClearMatch) hands len codeClearMatch rfl
    rw [s.taking_matchFlags] at cleared
    exact cleared
  · exact runDirective_of_answer (act := takeClearFaultLog) hands len codeClearFaultLog rfl

/-! ### The segment table (R36) -/

theorem Channel.newest_of_append {c : Channel} {older : List SegmentEntry} {last : SegmentEntry}
    (h : c.segments = older ++ [last]) : c.newest = some last := by
  rw [Channel.newest, h, List.getLast?_concat]

theorem Channel.modNewest_of_append {c : Channel} {older : List SegmentEntry} {last : SegmentEntry}
    (h : c.segments = older ++ [last]) (f : SegmentEntry → SegmentEntry) :
    c.modNewest f = { c with segments := older ++ [f last] } := by
  rw [Channel.modNewest, h, List.getLast?_concat, List.dropLast_concat]

theorem Channel.newest_of_empty {c : Channel} (h : c.segments = []) : c.newest = none := by
  rw [Channel.newest, h]; rfl

theorem Channel.modNewest_of_empty {c : Channel} (h : c.segments = [])
    (f : SegmentEntry → SegmentEntry) : c.modNewest f = c := by
  rw [Channel.modNewest, h]; rfl

/-! ### Segment records (R49) -/

section SegmentRecord
variable {s : State} {ch : ChannelId}

theorem Channel.readyRecord_of_empty {c : Channel} (h : c.segments = []) :
    c.readyRecord ch = none := by
  rw [Channel.readyRecord, h]

theorem Channel.readyRecord_of_closing {c : Channel} {e : SegmentEntry} {rest : List SegmentEntry}
    {duration : Nat} (h : c.segments = e :: rest) (hs : e.state = .closing duration)
    (ho : e.outstanding = 0) : c.readyRecord ch = some (e.record ch duration) := by
  simp only [Channel.readyRecord, h, hs, ho, if_true]

theorem Channel.readyRecord_of_waiting {c : Channel} {e : SegmentEntry} {rest : List SegmentEntry}
    (h : c.segments = e :: rest) (hw : e.state = .opened ∨ e.outstanding ≠ 0) :
    c.readyRecord ch = none := by
  cases hs : e.state with
  | opened => simp only [Channel.readyRecord, h, hs]
  | closing d =>
    have ho : e.outstanding ≠ 0 := hw.resolve_left (by rw [hs]; nofun)
    simp only [Channel.readyRecord, h, hs, ho, if_false]

theorem exec_segmentRecord_of_none (h : (s.channel ch).readyRecord ch = none) :
    exec (.segmentRecord ch) s = .next s.beginReturn := by
  simp only [exec, execSegmentRecord, State.beginReturn_channel, h]

theorem exec_segmentRecord_of_noRoom
    (h : 268435456 - (s.egress.reservedBytes + s.egress.queuedBytes) < 64) :
    exec (.segmentRecord ch) s = .next s.beginReturn := by
  have full : s.beginReturn.egress.room < Config.recordBytes := by
    rw [s.beginReturn_egress]; exact h
  simp only [exec, execSegmentRecord, full, if_true]
  split <;> rfl

theorem exec_segmentRecord_of_ready {r : SegmentRecord}
    (h : (s.channel ch).readyRecord ch = some r)
    (room : 64 ≤ 268435456 - (s.egress.reservedBytes + s.egress.queuedBytes)) :
    exec (.segmentRecord ch) s = .next { s.beginReturn with
      channels := s.channels.set ch { s.channel ch with
        segments := (s.channel ch).segments.tail, counters := (s.channel ch).counters.emitted }
      egress := { s.egress with
        queue := s.egress.queue ++ [.segment r], queuedBytes := s.egress.queuedBytes + 64 } } := by
  have fits : ¬ s.beginReturn.egress.room < Config.recordBytes := by
    rw [s.beginReturn_egress]; exact Nat.not_lt.2 room
  simp only [exec, execSegmentRecord, State.beginReturn_channel, h, fits, if_false]
  simp only [State.modChannel, State.enqueue, s.beginReturn_channels, s.beginReturn_egress]
  rfl

end SegmentRecord

/-! ### The close of a final segment (R11, R44) -/

theorem State.inputsDone_iff (s : State) (ch : ChannelId) :
    s.inputsDone ch = true ↔ (s.channel ch).decodeInFlight = false
      ∧ (∀ d ∈ s.decode.queue, d.channel ≠ ch) ∧ ∀ x ∈ s.small, x.channel ≠ ch := by
  simp only [State.inputsDone, Bool.and_eq_true, Bool.not_eq_true', List.all_eq_true, bne_iff_ne]
  tauto

theorem SegmentEntry.isOpen_iff (e : SegmentEntry) : e.isOpen = true ↔ e.state = .opened :=
  beq_iff_eq

section FinalClose
variable {s : State} {ch : ChannelId}

theorem exec_finalSegmentClose_of_empty (h : (s.channel ch).segments = []) :
    exec (.finalSegmentClose ch) s = .next s.beginReturn := by
  simp only [exec, execFinalSegmentClose, State.beginReturn_channel, Channel.newest_of_empty h]

/-- R11: whether the OPEN entry of a channel is to be closed. -/
def State.closeDue (s : State) (ch : ChannelId) (last : SegmentEntry) : Prop :=
  (s.channel ch).state = .draining ∧ last.state = .opened ∧ (s.channel ch).decodeInFlight = false
    ∧ (∀ d ∈ s.decode.queue, d.channel ≠ ch) ∧ ∀ x ∈ s.small, x.channel ≠ ch

theorem State.closeDue_iff (s : State) (ch : ChannelId) (last : SegmentEntry) :
    ((s.beginReturn.channel ch).state == .draining && s.beginReturn.inputsDone ch
        && last.isOpen) = true ↔ s.closeDue ch last := by
  simp only [Bool.and_eq_true, beq_iff_eq, State.inputsDone_iff, SegmentEntry.isOpen_iff,
    State.beginReturn_channel, State.beginReturn_decode, State.beginReturn_small, State.closeDue]
  tauto

variable {older : List SegmentEntry} {last : SegmentEntry}
  (h : (s.channel ch).segments = older ++ [last])
include h

theorem exec_finalSegmentClose_of_not_due (hd : ¬ s.closeDue ch last) :
    exec (.finalSegmentClose ch) s = .next s.beginReturn := by
  have newest := Channel.newest_of_append (c := s.beginReturn.channel ch)
    (by rwa [s.beginReturn_channel])
  simp only [exec, execFinalSegmentClose, newest, (s.closeDue_iff ch last).not.2 hd]
  rfl

theorem exec_finalSegmentClose_of_due (hd : s.closeDue ch last) :
    exec (.finalSegmentClose ch) s = .next { s.beginReturn with
      channels := s.channels.set ch { s.channel ch with
        cutPending := none
        segments := older ++ [{ last with
          state := .closing ((s.channel ch).finalDuration last.start) }] } } := by
  have newest := Channel.newest_of_append (c := s.beginReturn.channel ch)
    (by rwa [s.beginReturn_channel])
  simp only [exec, execFinalSegmentClose, newest, (s.closeDue_iff ch last).2 hd, if_true]
  have record := Channel.modNewest_of_append h
    (fun e => { e with state := .closing ((s.channel ch).finalDuration e.start) })
  refine congrArg Host.Outcome.next ((State.modChannel_congr (g := fun _ => { s.channel ch with
    cutPending := none
    segments := older ++ [{ last with
      state := .closing ((s.channel ch).finalDuration last.start) }] }) ?_).trans ?_)
  · rw [s.beginReturn_channel, record]
  · rw [State.modChannel, s.beginReturn_channels]

end FinalClose

/-- Settles O58: the oldest entry's readiness and the room decide the record, `State.closeDue` the
close. -/
theorem segmentsLeaveTheTable : Obligations.SegmentsLeaveTheTable := by
  intro s ch c u
  refine ⟨?_, fun hc => ⟨exec_segmentRecord_of_none (Channel.readyRecord_of_empty hc),
    exec_finalSegmentClose_of_empty hc⟩, ?_⟩
  · intro e rest hc room
    refine ⟨fun duration hs ho hr => ?_, fun hw => ?_⟩
    · have emitted := exec_segmentRecord_of_ready
        (Channel.readyRecord_of_closing (ch := ch) hc hs ho) hr
      rw [show (s.channel ch).segments.tail = rest from congrArg List.tail hc] at emitted
      exact emitted
    · rcases or_assoc.2 hw with hw | hr
      · exact exec_segmentRecord_of_none (Channel.readyRecord_of_waiting hc hw)
      · exact exec_segmentRecord_of_noRoom hr
  · intro older last hc due
    refine ⟨fun picture base hd hp hb => ?_, fun hd => exec_finalSegmentClose_of_not_due hc hd⟩
    have closed := exec_finalSegmentClose_of_due hc hd
    rw [Channel.finalDuration, show (s.channel ch).lastPicture = _ from hp,
      show (s.channel ch).base = _ from hb] at closed
    exact closed

/-! ### The cut decision (R40 to R43) -/

theorem Channel.modNewest_eq (c : Channel) (f : SegmentEntry → SegmentEntry) :
    c.modNewest f =
      { c with segments := c.segments.dropLast ++ (c.segments.getLast?.map f).toList } := by
  rcases List.eq_nil_or_concat' c.segments with h | ⟨older, last, h⟩
  · have same : c.segments = c.segments.dropLast ++ (c.segments.getLast?.map f).toList := by
      rw [h]; rfl
    exact (c.modNewest_of_empty h f).trans (congrArg (fun l => { c with segments := l }) same)
  · rw [Channel.modNewest_of_append h, h, List.getLast?_concat, List.dropLast_concat]; rfl

/-- R40: segment 0, with the chapter of a pending that is due. -/
theorem Channel.firstCut_eq (c : Channel) (p : Profile) (t : Nat) :
    c.firstCut p t = { c with
      firstGood := true
      nextCut := t + p.segmentTicks
      preSegmentAudio := 0
      segments := c.segments ++
        [{ number := 0, state := .opened, start := t, pictures := 0, outstanding := 0,
           bytes := #v[0, 0, 0, 0, min 18446744073709551615 c.preSegmentAudio],
           chapter := match c.cutPending with
             | none => none
             | some q => if q.notBefore ≤ t then
                 q.chapter.map (fun k => { marker := k, notBefore := q.notBefore })
               else none }]
      cutPending := match c.cutPending with
        | none => none
        | some q => if q.notBefore ≤ t then none else some q } := by
  have counted (chapter : Option Chapter) :
      (SegmentEntry.fresh 0 t chapter).addBytes 4 c.preSegmentAudio =
        { number := 0, state := .opened, start := t, pictures := 0, outstanding := 0,
          bytes := #v[0, 0, 0, 0, min 18446744073709551615 c.preSegmentAudio],
          chapter := chapter } := by
    simp [SegmentEntry.addBytes, SegmentEntry.fresh, raiseCounter, Config.max64]
    rfl
  simp only [Channel.firstCut, counted]
  cases hq : c.cutPending with
  | none => rfl
  | some q =>
    by_cases hn : q.notBefore ≤ t
    · simp only [hn, if_true]; rfl
    · simp only [hn, if_false]; rfl

/-- R41: when a marker cut is due on a channel with an entry. -/
theorem Channel.markerDue_iff {c : Channel} {last : SegmentEntry}
    (h : c.segments.getLast? = some last) (p : Profile) (t : Nat) :
    c.markerDue p t = true ↔
      ∃ q, c.cutPending = some q ∧ q.notBefore ≤ t ∧ p.minimumTicks ≤ t - last.start := by
  have newest : c.newest = some last := h
  cases hq : c.cutPending <;> simp [Channel.markerDue, hq, newest]

/-- R43: a cut after the first closes the newest entry and opens the next; a marker cut records the
pending's chapter and consumes it. -/
theorem Channel.laterCut_eq {c : Channel} {last : SegmentEntry}
    (h : c.segments.getLast? = some last) (p : Profile) (t : Nat) :
    c.laterCut p t = { c with
      nextCut := t + p.segmentTicks
      cutPending := if c.markerDue p t then none else c.cutPending
      segments := c.segments.dropLast ++
        [{ last with state := .closing (t - last.start) },
         { number := last.number + 1, state := .opened, start := t, pictures := 0,
           outstanding := 0, bytes := #v[0, 0, 0, 0, 0],
           chapter := if c.markerDue p t then c.cutPending.bind CutPending.chapterOf
             else none }] } := by
  have newest : c.newest = some last := h
  simp only [Channel.laterCut, newest]
  rfl

section DecideCut
variable {c : Channel} {good : Bool} (p : Profile) (t : Nat)

theorem Channel.decideCut_of_first (h : c.firstGood = false) :
    c.decideCut p true t = (c.firstCut p t, true) := by
  simp [Channel.decideCut, h]

theorem Channel.decideCut_of_concealed (hg : good = false) :
    c.decideCut p good t = (c, false) := by
  subst hg; cases h : c.firstGood <;> simp [Channel.decideCut, h]

theorem Channel.decideCut_of_due (h : c.firstGood = true)
    (due : c.timedDue t = true ∨ c.markerDue p t = true) (room : c.segments.length < 4) :
    c.decideCut p true t = (c.laterCut p t, true) := by
  simp [Channel.decideCut, h, due, Config.segmentTableEntries, room]

theorem Channel.decideCut_of_not_due (h : c.firstGood = true)
    (hn : ¬ (c.timedDue t = true ∨ c.markerDue p t = true) ∨ good = false
      ∨ 4 ≤ c.segments.length) :
    c.decideCut p good t = (c, false) := by
  have stays : ¬ ((c.timedDue t || c.markerDue p t) && good
      && decide (c.segments.length < Config.segmentTableEntries)) = true := by
    simp only [Bool.and_eq_true, Bool.or_eq_true]
    rintro ⟨⟨due, hg⟩, room⟩
    rcases hn with hn | hn | hn
    · exact hn due
    · exact Bool.false_ne_true (hn.symm.trans hg)
    · exact Nat.not_lt.2 hn (of_decide_eq_true room)
  simp only [Channel.decideCut, h, stays]
  rfl

end DecideCut

/-! ### The segmenter's work on a picture (R37 to R47) -/

/-- R47: the source slot is freed when every job of the picture is a skip job, and otherwise counts
the others. -/
theorem SlotPool.setSource_eq (pool : SlotPool) (source : Option SourcePicture) (jobs : List Job) :
    pool.setSource source (jobs.filter (fun j => !j.skip)).length =
      match source with
      | none => pool
      | some src =>
        if jobs.all (fun j => j.skip) = true then pool.release src.slot
        else pool.mark src.slot (.source (jobs.filter (fun j => j.skip = false)).length) := by
  cases source with
  | none => rfl
  | some src =>
    have none_left : (jobs.filter (fun j => !j.skip)).length = 0 ↔
        jobs.all (fun j => j.skip) = true := by
      simp [List.filter_eq_nil_iff]
    have same : jobs.filter (fun j => !j.skip) = jobs.filter (fun j => j.skip = false) :=
      List.filter_congr fun j _ => by cases j.skip <;> rfl
    simp only [SlotPool.setSource, ← same, none_left]

/-- A list from its last element and those before. -/
theorem dropLast_append_getLast?_toList {α : Type} (l : List α) :
    l = l.dropLast ++ l.getLast?.toList := by
  rcases List.eq_nil_or_concat' l with h | ⟨older, last, h⟩
  · rw [h]; rfl
  · rw [h, List.getLast?_concat, List.dropLast_concat]; rfl

/-- R39: the part once Δt and the picture number are recorded and the markers have seen the
picture. -/
def State.markPicture (s : State) (pic : DecodedPicture) : State :=
  (s.modChannel pic.channel (fun c => { c with
    lastDelta := pic.delta
    pictureNumber := count32 (s.channel pic.channel).pictureNumber })).evaluateMarkers pic.marked

theorem State.markPicture_eq (s : State) (pic : DecodedPicture) :
    s.markPicture pic = State.evaluateMarkers { s with
        channels := s.channels.set pic.channel { s.channel pic.channel with
          lastDelta := pic.delta
          pictureNumber := min 4294967295 ((s.channel pic.channel).pictureNumber + 1) } }
      { channel := pic.channel, kind := .picture, time := pic.time, flags := pic.flags
        code := 0 } :=
  congrArg₂ State.evaluateMarkers rfl rfl

/-- R40 to R47: the segmenter's work on a picture that the markers have seen: `decided` is the
channel's record after the cut decision, and whether the picture is a cut picture. -/
def State.joinPicture (s : State) (pic : DecodedPicture) (number v : Nat)
    (decided : Channel × Bool) : State :=
  { s with
    channels := s.channels.set pic.channel (decided.1.join v)
    jobs := s.jobs ++ decided.1.makeJobs pic number decided.2 v
    pool := s.pool.setSource pic.source
      ((decided.1.makeJobs pic number decided.2 v).filter (fun j => !j.skip)).length }

theorem State.takePicture_eq (s : State) (pic : DecodedPicture) :
    s.takePicture pic = (s.markPicture pic).joinPicture pic (s.channel pic.channel).pictureNumber
      (s.profileOf pic.channel).count
      (((s.markPicture pic).channel pic.channel).decideCut (s.profileOf pic.channel)
        pic.source.isSome pic.time) := by
  unfold State.takePicture State.markPicture
  dsimp only
  generalize State.evaluateMarkers _ _ = m
  rfl

/-- R45 to R47 in the words of the statement. -/
theorem State.joinPicture_eq (s : State) (pic : DecodedPicture) (number v : Nat)
    (decided : Channel × Bool) :
    s.joinPicture pic number v decided = { s with
      channels := s.channels.set pic.channel { decided.1 with
        segments := decided.1.segments.dropLast ++ (decided.1.segments.getLast?.map (fun e =>
          { e with pictures := min 4294967295 (e.pictures + 1)
                   outstanding := e.outstanding + v })).toList }
      jobs := s.jobs ++ decided.1.makeJobs pic number decided.2 v
      pool := match pic.source with
        | none => s.pool
        | some src =>
          if (decided.1.makeJobs pic number decided.2 v).all (fun j => j.skip) = true then
            s.pool.release src.slot
          else s.pool.mark src.slot (.source ((decided.1.makeJobs pic number decided.2 v).filter
            (fun j => j.skip = false)).length) } := by
  rw [State.joinPicture, SlotPool.setSource_eq, Channel.join, Channel.modNewest_eq]
  rfl

theorem exec_takeHeldPicture_eq {s : State} {e : DecodeEngineId} {rest : List DecodeEngineId}
    {pic : DecodedPicture} (hh : s.decode.held = e :: rest)
    (he : s.decode.engines[e] = .holding pic) :
    exec .takeHeldPicture s =
      if s.jobs.length + s.profiles[(s.channel pic.channel).profile].count ≤ 256 then
        .next { s.beginReturn.takePicture pic with
          channels := (s.beginReturn.takePicture pic).channels.set pic.channel
            { (s.beginReturn.takePicture pic).channel pic.channel with decodeInFlight := false }
          decode := { s.decode with engines := s.decode.engines.set e .idle, held := rest } }
      else .next s.beginReturn := by
  have room : s.beginReturn.jobRoomFor pic.channel = true ↔
      s.jobs.length + s.profiles[(s.channel pic.channel).profile].count ≤ 256 := by
    simp [State.jobRoomFor, State.profileOf, State.channel, Config.jobQueueEntries]
  have decode : (s.beginReturn.takePicture pic).decode = s.decode := by simp
  simp only [exec, execTakeHeldPicture, State.beginReturn_decode, hh, he, room,
    State.clearDecode_decode]
  generalize s.beginReturn.takePicture pic = t at decode ⊢
  rw [decode]
  rfl

/-- Settles O53: the cut is `Channel.decideCut`'s, case by case, and the rest of the work follows
the record it leaves. -/
theorem segmenterTakesPicture : Obligations.SegmenterTakesPicture := by
  refine ⟨fun s pic => ?_, fun s e rest pic hh he => ?_⟩
  · intro before p t m c good
    obtain ⟨d, hd⟩ : ∃ d, c.decideCut p pic.source.isSome t = d := ⟨_, rfl⟩
    refine ⟨d.2, d.1, d.1.segments.dropLast, d.1.segments.getLast?,
      d.1.makeJobs pic before.pictureNumber d.2 p.count, fun first hg => ?_,
      fun seen last hlast => ?_, fun first hg => ?_, dropLast_append_getLast?_toList _,
      fun hnone => ?_, rfl, ?_⟩
    · rw [← hd, hg, Channel.decideCut_of_first p t first]
      exact ⟨rfl, c.firstCut_eq p t⟩
    · intro timed marked
      have isMarked : c.markerDue p t = true ↔ marked := Channel.markerDue_iff hlast p t
      have isDue : (c.timedDue t = true ∨ c.markerDue p t = true) ↔ timed ∨ marked :=
        or_congr decide_eq_true_iff isMarked
      rw [← isDue, ← hd]
      refine ⟨fun due hg room => ?_, fun hn => ?_⟩
      · rw [hg, Channel.decideCut_of_due p t seen due room]
        have cut := Channel.laterCut_eq hlast p t
        refine ⟨rfl, fun hm => cut.trans ?_, fun hm => cut.trans ?_⟩
        · rw [if_pos (isMarked.2 hm), if_pos (isMarked.2 hm)]; rfl
        · rw [if_neg (mt isMarked.1 hm), if_neg (mt isMarked.1 hm)]
      · rw [Channel.decideCut_of_not_due p t seen
          (hn.imp_right (Or.imp_left Bool.eq_false_iff.2))]
        exact ⟨rfl, rfl⟩
    · rw [← hd, Channel.decideCut_of_concealed p t (Bool.eq_false_iff.2 hg)]
      exact ⟨rfl, rfl⟩
    · rw [List.getLast?_eq_none_iff.1 hnone]; rfl
    · have marked : s.markPicture pic = m := s.markPicture_eq pic
      have taken := s.takePicture_eq pic
      rw [marked] at taken
      subst hd
      exact taken.trans (m.joinPicture_eq pic before.pictureNumber p.count
        (c.decideCut p pic.source.isSome t))
  · rw [exec_takeHeldPicture_eq hh he]
    exact ⟨fun hn => if_neg hn, fun hr => if_pos hr⟩

end Sys2Proof.Machine

/-! SUPPORT. What no step may exceed (R36, R74, R114, R139): the segment tables, the job queue and
the small-unit buffer stay within their bounds. First the rewrites of a channel record, then the
shared operations, then the commands one by one. -/

namespace Sys2Proof.Machine

-- One after another: elaborated side by side, these many case splits exceed the memory limit.
set_option Elab.async false

/-! ### A segment table within its bounds (R36, R40) -/

theorem Channel.tableOk_of_empty {c : Channel} (h : c.segments = []) : c.TableOk := by
  simp [Channel.TableOk, h]

/-- R36: a table with a newest entry. -/
theorem Channel.tableOk_iff_of_append {c : Channel} {older : List SegmentEntry}
    {last : SegmentEntry} (h : c.segments = older ++ [last]) :
    c.TableOk ↔ older.length < 4 ∧ (∀ e ∈ older, e.isOpen = false) ∧ c.firstGood = true := by
  have seen : (c.firstGood = false → older ++ [last] = []) ↔ c.firstGood = true := by
    cases c.firstGood <;> simp
  rw [Channel.TableOk, h, seen, List.dropLast_concat, List.length_append]
  exact Iff.rfl

/-- A rewrite of a channel's record that keeps its segment table within its bounds. -/
def Channel.KeepsTable (c d : Channel) : Prop :=
  c.TableOk → d.TableOk

theorem Channel.KeepsTable.trans {c d e : Channel} (h : c.KeepsTable d) (k : d.KeepsTable e) :
    c.KeepsTable e := fun ok => k (h ok)

/-- The segment table is left. -/
theorem Channel.KeepsTable.of_eq {c d : Channel} (hs : d.segments = c.segments := by rfl)
    (hg : d.firstGood = c.firstGood := by rfl) : c.KeepsTable d := by
  simp only [Channel.KeepsTable, Channel.TableOk, hs, hg, imp_self]

/-- The newest entry may change in any way. -/
theorem Channel.keepsTable_modNewest (c : Channel) (f : SegmentEntry → SegmentEntry) :
    c.KeepsTable (c.modNewest f) := by
  rcases List.eq_nil_or_concat' c.segments with h | ⟨older, last, h⟩
  · rw [Channel.modNewest_of_empty h]; exact .of_eq
  · rw [Channel.modNewest_of_append h]
    intro ok
    exact (Channel.tableOk_iff_of_append rfl).2 ((Channel.tableOk_iff_of_append h).1 ok)

/-- R49: the oldest entry leaves the table. -/
theorem Channel.keepsTable_tail {c d : Channel} (hs : d.segments = c.segments.tail)
    (hg : d.firstGood = c.firstGood) : c.KeepsTable d := by
  rintro ⟨few, closed, unseen⟩
  refine ⟨?_, fun e he => closed e ?_, fun h => ?_⟩
  · rw [hs, List.length_tail]; omega
  · rw [hs, ← List.tail_dropLast] at he; exact List.mem_of_mem_tail he
  · rw [hs, unseen (hg ▸ h)]; rfl

/-- R48: a completion changes an entry's counts alone. -/
theorem Channel.keepsTable_completeInSegment (c : Channel) (number r size : Nat) :
    c.KeepsTable (c.completeInSegment number r size) := by
  have state (e : SegmentEntry) : (e.addBytes r size).state = e.state := by
    unfold SegmentEntry.addBytes; split <;> rfl
  rintro ⟨few, closed, unseen⟩
  refine ⟨(List.length_map _).trans_le few, fun e he => ?_, fun h => ?_⟩
  · simp only [Channel.completeInSegment, ← List.map_dropLast, List.mem_map] at he
    obtain ⟨x, hx, rfl⟩ := he
    have wasClosed := closed x hx
    split
    · simpa only [SegmentEntry.isOpen, state] using wasClosed
    · exact wasClosed
  · simp only [Channel.completeInSegment, unseen h, List.map_nil]

/-- R40 to R43: a cut is made only into an empty table or into one with an entry free, and closes
the entry before it. -/
theorem Channel.keepsTable_decideCut (c : Channel) (p : Profile) (good : Bool) (t : Nat) :
    c.KeepsTable (c.decideCut p good t).1 := by
  unfold Channel.decideCut
  split
  · next first =>
    split
    · rintro ⟨-, -, unseen⟩
      have empty : c.segments = [] := unseen (by simpa using first)
      refine (Channel.tableOk_iff_of_append (older := []) (by rw [Channel.firstCut, empty])).2
        ⟨by decide, by simp, rfl⟩
    · exact .of_eq
  · split
    · next due =>
      have room : c.segments.length < 4 := of_decide_eq_true (Bool.and_eq_true_iff.1 due).2
      rcases List.eq_nil_or_concat' c.segments with h | ⟨older, last, h⟩
      · have none : c.newest = none := Channel.newest_of_empty h
        simp only [Channel.laterCut, none]
        exact .of_eq
      · intro ok
        obtain ⟨-, closed, seen⟩ := (Channel.tableOk_iff_of_append h).1 ok
        dsimp only
        rw [Channel.laterCut_eq (by rw [h, List.getLast?_concat]), h, List.dropLast_concat]
        refine (Channel.tableOk_iff_of_append (List.append_cons older _ _)).2 ⟨?_, ?_, seen⟩
        · rw [h] at room; simpa using room
        · intro e he
          rcases List.mem_append.1 he with he | he
          · exact closed e he
          · rw [List.mem_singleton.1 he]; rfl
    · exact .of_eq

theorem Channel.keepsTable_addAudio (c : Channel) (n : Nat) : c.KeepsTable (c.addAudio n) := by
  unfold Channel.addAudio
  split
  · exact c.keepsTable_modNewest _
  · exact .of_eq

theorem Channel.keepsTable_adoptBase (c : Channel) (timestamp : Nat) :
    c.KeepsTable (c.adoptBase timestamp) := by
  rw [Channel.adoptBase_eq]; exact .of_eq

/-- R68: a fullness update is none of the segment table's. -/
theorem Channel.keepsTable_updateFullness (c : Channel) (x : RenditionSpec) (r delta size : Nat) :
    c.KeepsTable (c.updateFullness x r delta size) := by
  obtain ⟨contexts, counters, h, -⟩ := c.updateFullness_spec x r delta size
  rw [h]; exact .of_eq

theorem Channel.keepsTable_skipCompleted (c : Channel) (x : RenditionSpec) (r delta : Nat)
    (good : Bool) : c.KeepsTable (c.skipCompleted x r delta good) := by
  unfold Channel.skipCompleted
  dsimp only
  refine .trans ?_ (.trans (Channel.keepsTable_updateFullness _ x r delta _) .of_eq)
  split <;> exact .of_eq

theorem Channel.keepsTable_engineCompleted (c : Channel) (x : RenditionSpec) (j : Job)
    (record : DispatchRecord) (r : CompletionReport) :
    c.KeepsTable (c.engineCompleted x j record r) := by
  have updated := c.keepsTable_updateFullness x j.rendition j.delta r.size
  unfold Channel.engineCompleted
  dsimp only
  generalize c.updateFullness x j.rendition j.delta r.size = d at updated ⊢
  refine updated.trans ?_
  split
  · split <;> exact .of_eq
  · split <;> exact .of_eq

/-! ### What keeps the bounds (R36, R74, R114, R139) -/

/-- The bounds of the segment tables, the job queue and the small-unit buffer are not lost between
the two states. -/
def State.KeepsBounds (s t : State) : Prop :=
  s.QueueBounds → t.QueueBounds

namespace State.KeepsBounds
variable {s t u : State}

theorem refl : s.KeepsBounds s := id

theorem trans (h : s.KeepsBounds t) (k : t.KeepsBounds u) : s.KeepsBounds u := fun ok => k (h ok)

/-- An update that leaves the channels and adds neither a job nor a small unit or credit. -/
theorem of_eq (hc : t.channels = s.channels := by simp)
    (hj : t.jobs.length ≤ s.jobs.length := by simp)
    (hu : t.small.length + t.ingest.smallOutstanding ≤
      s.small.length + s.ingest.smallOutstanding := by simp) : s.KeepsBounds t := by
  rintro ⟨tables, jobs, units⟩
  exact ⟨fun ch => State.channel_congr hc ch ▸ tables ch, hj.trans jobs, hu.trans units⟩

/-- An update that also writes one channel record. -/
theorem of_set {ch : ChannelId} {c : Channel} (hc : t.channels = s.channels.set ch c)
    (h : (s.channel ch).KeepsTable c) (hj : t.jobs.length ≤ s.jobs.length := by simp)
    (hu : t.small.length + t.ingest.smallOutstanding ≤
      s.small.length + s.ingest.smallOutstanding := by simp) : s.KeepsBounds t := by
  rintro ⟨tables, jobs, units⟩
  refine ⟨fun x => ?_, hj.trans jobs, hu.trans units⟩
  rw [State.channel_congr (t := s.modChannel ch fun _ => c) hc x, State.channel_modChannel]
  split
  · exact h (tables ch)
  · exact tables x

theorem modChannel {ch : ChannelId} {f : Channel → Channel}
    (h : (s.channel ch).KeepsTable (f (s.channel ch))) : s.KeepsBounds (s.modChannel ch f) :=
  .of_set rfl h

theorem foldl {α : Type} {f : State → α → State} (h : ∀ (t : State) (a : α), t.KeepsBounds (f t a))
    (l : List α) : ∀ s : State, s.KeepsBounds (l.foldl f s) := by
  induction l with
  | nil => exact fun s => refl
  | cons a l ih => exact fun s => (h s a).trans (ih (f s a))

theorem raise {e : Event} (h : s.KeepsBounds t) : s.KeepsBounds (t.raise e) := h.trans .of_eq

theorem raiseAll {es : List Event} (h : s.KeepsBounds t) : s.KeepsBounds (t.raiseAll es) :=
  h.trans .of_eq

theorem startStall (h : s.KeepsBounds t) : s.KeepsBounds t.startStall := h.trans .of_eq

theorem settleHold (h : s.KeepsBounds t) : s.KeepsBounds t.settleHold := h.trans .of_eq

end State.KeepsBounds

/-! ### The shared operations keep the bounds -/

namespace State
variable (s : State)

theorem keepsBounds_beginReturn : s.KeepsBounds s.beginReturn := by
  obtain ⟨w, h⟩ := s.beginReturn_spec
  rw [h]; exact .of_eq

theorem keepsBounds_discardPartial (ch : ChannelId) : s.KeepsBounds (s.discardPartial ch) := by
  rw [discardPartial_eq]
  exact KeepsBounds.trans (.of_eq rfl le_rfl le_rfl) (.modChannel .of_eq)

/-- R145 and R147: a loss voids the SMALL credits. -/
theorem keepsBounds_ingestLoss : s.KeepsBounds s.ingestLoss := by
  have discarded := KeepsBounds.foldl keepsBounds_discardPartial (List.finRange 32) s
  unfold ingestLoss
  generalize (List.finRange 32).foldl discardPartial s = t at discarded ⊢
  exact discarded.trans .of_eq

theorem keepsBounds_headerFailure : s.KeepsBounds s.headerFailure := by
  have lost := keepsBounds_ingestLoss (s.countFrame FrameCounters.countHeader)
  unfold headerFailure resynchronise
  generalize (s.countFrame FrameCounters.countHeader).ingestLoss = t at lost ⊢
  exact KeepsBounds.trans (.of_eq rfl le_rfl le_rfl) (lost.trans (.of_eq rfl le_rfl le_rfl))

theorem keepsBounds_setPartial (ch : ChannelId) (a : Option PartialPicture) :
    s.KeepsBounds (s.setPartial ch a) := .modChannel .of_eq

theorem keepsBounds_count (ch : ChannelId) (f : ChannelCounters → ChannelCounters) :
    s.KeepsBounds (s.count ch f) := .modChannel .of_eq

theorem keepsBounds_countFrame (f : FrameCounters → FrameCounters) :
    s.KeepsBounds (s.countFrame f) := .of_eq rfl le_rfl le_rfl

theorem keepsBounds_clearDecode (ch : ChannelId) : s.KeepsBounds (s.clearDecode ch) :=
  .modChannel .of_eq

theorem keepsBounds_evaluateMarkers (u : MarkedUnit) : s.KeepsBounds (s.evaluateMarkers u) := by
  rw [evaluateMarkers_eq]
  exact .of_set rfl .of_eq le_rfl le_rfl

theorem keepsBounds_releaseHead : s.KeepsBounds s.releaseHead :=
  .of_eq rfl le_rfl (Nat.add_le_add_right (List.length_tail ▸ Nat.sub_le _ _) _)

theorem keepsBounds_reportRead (o : ReadOutcome) (r : FaultRecord) :
    s.KeepsBounds (s.reportRead o r) := .of_eq

end State

/-! ### Media frames and decodes keep the bounds -/

namespace State
variable (s : State)

theorem keepsBounds_stray : s.KeepsBounds s.stray := s.keepsBounds_countFrame _

theorem keepsBounds_acceptPicture (ch : ChannelId) (slot : SlotId) (time : Nat)
    (flags : BitVec 16) : s.KeepsBounds (s.acceptPicture ch slot time flags) := by
  have adopted := (s.channel ch).keepsTable_adoptBase time
  unfold acceptPicture
  dsimp only
  split
  · exact .of_set rfl (adopted.trans .of_eq)
  · exact .of_set rfl (adopted.trans .of_eq)

theorem keepsBounds_startPicture (p : StartPosition) (f : MediaFrame) (slot : SlotId) :
    s.KeepsBounds (s.startPicture p f slot) := by
  have filled := (s.keepsBounds_discardPartial f.channel).trans
    (u := { s.discardPartial f.channel with
      pool := (s.discardPartial f.channel).pool.fill slot f.payload.bytes }) .of_eq
  unfold startPicture
  split
  · cases p with
    | first => exact filled.trans (keepsBounds_setPartial _ _ _)
    | only => exact filled.trans (keepsBounds_acceptPicture _ _ _ _ _)
  · exact KeepsBounds.trans .of_eq (keepsBounds_stray _)

theorem keepsBounds_startPictureFailed (f : MediaFrame) (slot : SlotId) :
    s.KeepsBounds (s.startPictureFailed f slot) := by
  have counted : s.KeepsBounds ((s.releaseSlot slot).countFrame FrameCounters.countPayload) :=
    KeepsBounds.trans .of_eq (keepsBounds_countFrame _ _)
  unfold startPictureFailed
  dsimp only
  split
  · exact counted.trans ((keepsBounds_discardPartial _ _).trans (keepsBounds_count _ _ _))
  · exact counted

theorem keepsBounds_continuePicture (p : ContinuationPosition) (f : MediaFrame) :
    s.KeepsBounds (s.continuePicture p f) := by
  unfold continuePicture
  dsimp only
  split
  · next part _ _ =>
    have appended : s.KeepsBounds
        { s with pool := s.pool.append part.slot f.payload.bytes } := .of_eq
    split
    · exact s.keepsBounds_discardPartial _
    · split
      · exact s.keepsBounds_discardPartial _
      · have parted (a : Option PartialPicture) :=
          appended.trans (keepsBounds_setPartial _ f.channel a)
        cases p with
        | middle => exact parted _
        | last => exact (parted none).trans (keepsBounds_acceptPicture _ _ _ _ _)
  · exact s.keepsBounds_stray

theorem keepsBounds_continuationFailed (f : MediaFrame) :
    s.KeepsBounds (s.continuationFailed f) := by
  have counted := s.keepsBounds_countFrame FrameCounters.countPayload
  unfold continuationFailed
  dsimp only
  split
  · exact counted.trans (keepsBounds_discardPartial _ _)
  · exact counted

theorem keepsBounds_smallFailed (p : Position) (f : MediaFrame) :
    s.KeepsBounds (s.smallFailed p f) := by
  have counted := s.keepsBounds_countFrame FrameCounters.countPayload
  unfold smallFailed
  dsimp only
  split
  · exact counted.trans (keepsBounds_count _ _ _)
  · exact counted

/-- R139 and R114: a SMALL credit is spent. -/
def spendSmall (s : State) : State :=
  { s with ingest := { s.ingest with smallOutstanding := s.ingest.smallOutstanding - 1 } }

theorem keepsBounds_spendSmall : s.KeepsBounds s.spendSmall :=
  .of_eq rfl le_rfl (Nat.add_le_add_left (Nat.sub_le _ _) _)

/-- R114: the unit that enters the buffer takes the place of the credit spent on it. -/
theorem keepsBounds_acceptSmall (k : SmallKind) (f : MediaFrame)
    (credit : s.ingest.smallOutstanding ≠ 0) : s.KeepsBounds (s.spendSmall.acceptSmall k f) := by
  have adopted := (s.channel f.channel).keepsTable_adoptBase f.timestamp.toNat
  unfold acceptSmall
  dsimp only
  split
  · exact s.keepsBounds_spendSmall.trans (.of_set rfl (adopted.trans .of_eq))
  · have one (x : SmallUnit) : (s.small ++ [x]).length + (s.ingest.smallOutstanding - 1) ≤
        s.small.length + s.ingest.smallOutstanding := by
      rw [List.length_append, List.length_singleton]; omega
    cases k with
    | audio => exact .of_set rfl (adopted.trans .of_eq) le_rfl (one _)
    | cue => exact .of_set rfl adopted le_rfl (one _)

theorem keepsBounds_startSmall (k : SmallKind) (p : Position) (f : MediaFrame)
    (credit : s.ingest.smallOutstanding ≠ 0) : s.KeepsBounds (s.spendSmall.startSmall k p f) := by
  unfold startSmall
  split
  · exact s.keepsBounds_acceptSmall k f credit
  · exact s.keepsBounds_spendSmall.trans (keepsBounds_stray _)

theorem keepsBounds_startDecode (engine : DecodeEngineId) (entry : DecodeEntry) :
    s.KeepsBounds (s.startDecode engine entry) := .of_set rfl .of_eq le_rfl le_rfl

/-- R37 and R74: the jobs of a picture are created into free entries of the job queue. -/
theorem keepsBounds_takePicture {pic : DecodedPicture}
    (room : s.jobRoomFor pic.channel = true) : s.KeepsBounds (s.takePicture pic) := by
  have free : s.jobs.length + (s.profileOf pic.channel).count ≤ 256 := of_decide_eq_true room
  have marked : s.KeepsBounds (s.markPicture pic) :=
    KeepsBounds.trans (.modChannel .of_eq) (keepsBounds_evaluateMarkers _ pic.marked)
  have jobs : (s.markPicture pic).jobs = s.jobs := by simp [markPicture]
  rw [takePicture_eq]
  generalize s.markPicture pic = m at marked jobs ⊢
  have decided := (m.channel pic.channel).keepsTable_decideCut (s.profileOf pic.channel)
    pic.source.isSome pic.time
  generalize (m.channel pic.channel).decideCut _ _ _ = cut at decided ⊢
  have joined : m.KeepsBounds (m.modChannel pic.channel
      (fun _ => cut.1.join (s.profileOf pic.channel).count)) :=
    .modChannel (decided.trans (Channel.keepsTable_modNewest _ _))
  intro ok
  obtain ⟨tables, -, units⟩ := joined (marked ok)
  refine ⟨tables, ?_, units⟩
  simpa [joinPicture, Channel.makeJobs, jobs] using free

/-- R109 to R111: a decode's picture is dropped, taken or held. -/
theorem keepsBounds_handOver (e : DecodeEngineId) (pic : DecodedPicture) :
    s.KeepsBounds (s.handOver e pic) := by
  have idled {t : State} (h : s.KeepsBounds t) :
      s.KeepsBounds ((t.clearDecode pic.channel).setDecodeEngine e .idle) :=
    h.trans ((t.keepsBounds_clearDecode _).trans (.of_eq rfl le_rfl le_rfl))
  unfold handOver
  split
  · exact idled (.modChannel .of_eq)
  · split
    · next room => exact idled (s.keepsBounds_takePicture room)
    · unfold holdPicture
      cases pic.source <;> exact .of_eq rfl le_rfl le_rfl

theorem keepsBounds_finishDecode (e : DecodeEngineId) (d : DecodeEntry) (good : Bool) :
    s.KeepsBounds (s.finishDecode e d good) := by
  have concealed : s.KeepsBounds (s.conceal d) :=
    KeepsBounds.trans (t := s.releaseSlot d.slot) .of_eq (keepsBounds_count _ _ _)
  unfold finishDecode
  dsimp only
  split
  · exact s.keepsBounds_handOver e _
  · exact concealed.trans (keepsBounds_handOver _ _ _)

theorem keepsBounds_abandonDecode (e : DecodeEngineId) (d : DecodeEntry) :
    s.KeepsBounds (s.abandonDecode e d) :=
  KeepsBounds.trans (t := s.releaseSlot d.slot) .of_eq
    ((keepsBounds_clearDecode _ d.channel).trans (.of_eq rfl le_rfl le_rfl))

/-! ### Jobs keep the bounds -/

theorem keepsBounds_startJob (i : Nat) (j : Job) (record : DispatchRecord) (pool : SlotPool) :
    s.KeepsBounds (s.startJob i j record pool) :=
  .of_set rfl .of_eq List.length_set.le le_rfl

theorem keepsBounds_completeSkip (i : Nat) (j : Job) : s.KeepsBounds (s.completeSkip i j) :=
  .of_set rfl ((Channel.keepsTable_skipCompleted _ _ j.rendition j.delta j.isGood).trans
    (Channel.keepsTable_completeInSegment _ j.segment j.rendition _)) (List.length_eraseIdx_le _ i)
    le_rfl

theorem keepsBounds_completeJob (e : EncodeEngineId) (i : Nat) (j : Job) (record : DispatchRecord)
    (r : CompletionReport) : s.KeepsBounds (s.completeJob e i j record r) :=
  .of_set rfl ((Channel.keepsTable_engineCompleted _ _ j record r).trans
    ((Channel.keepsTable_completeInSegment _ j.segment j.rendition r.size).trans .of_eq))
    (List.length_eraseIdx_le _ i) le_rfl

theorem keepsBounds_abandonJob (e : EncodeEngineId) (i : Nat) (j : Job) (record : DispatchRecord)
    (r : CompletionReport) : s.KeepsBounds (s.abandonJob e i j record r) :=
  .of_set rfl .of_eq (List.length_eraseIdx_le _ i) le_rfl

/-! ### The ends of channels and the audio path keep the bounds -/

theorem keepsBounds_endChannel (ch : ChannelId) (outcome : ChannelOutcome) :
    s.KeepsBounds (s.endChannel ch outcome) :=
  .of_set rfl (fun _ => Channel.tableOk_of_empty rfl) le_rfl le_rfl

theorem keepsBounds_finishAbort (ch : ChannelId) : s.KeepsBounds (s.finishAbort ch).1 := by
  unfold finishAbort
  split
  · exact s.keepsBounds_endChannel ch .aborted
  · exact .refl

/-- R13: ABORT empties the table and removes jobs and small units. -/
theorem keepsBounds_abortWork (ch : ChannelId) : s.KeepsBounds (s.abortWork ch) := by
  rw [abortWork_eq]
  exact .of_set rfl (fun _ => Channel.tableOk_of_empty rfl) (List.length_filterMap_le _ _)
    (Nat.add_le_add_right (List.length_filter_le _ _) _)

theorem keepsBounds_sendAudio (u : SmallUnit) : s.KeepsBounds (s.sendAudio u) := by
  unfold sendAudio
  dsimp only
  exact .of_set rfl ((Channel.keepsTable_addAudio _ _).trans .of_eq)

end State

/-! ### The commands that are not directives keep the bounds -/

/-- Whatever next state a command answers, the bounds are kept. -/
def Bounded (s : State) (o : Host.Outcome State Fault Refusal) : Prop :=
  ∀ t, o = .next t → s.KeepsBounds t

namespace Bounded
variable {s u : State} {o o' : Host.Outcome State Fault Refusal}

theorem next {t : State} (h : s.KeepsBounds t) : Bounded s (.next t) := by
  intro u hu; cases hu; exact h

theorem same : Bounded s (.next s) := next .refl

theorem fault (r : Fault) : Bounded s (.fault r) := fun _ h => nomatch h

theorem after (h : s.KeepsBounds u) (k : Bounded u o) : Bounded s o :=
  fun t ht => h.trans (k t ht)

theorem ite {c : Prop} [Decidable c] (h : Bounded s o) (k : Bounded s o') :
    Bounded s (if c then o else o') := by
  split
  · exact h
  · exact k

end Bounded

section Commands
variable (s : State)

theorem execPictureStartFrame_bounded (p : StartPosition) (f : MediaFrame) :
    Bounded s (execPictureStartFrame p f s) := by
  refine .after s.keepsBounds_beginReturn (.ite .same
    (.ite (.next (State.keepsBounds_headerFailure _)) ?_))
  split
  · exact .next (State.keepsBounds_countFrame _ _)
  · next slot rest _ =>
    have spent : s.beginReturn.KeepsBounds { s.beginReturn with
        pool := { s.beginReturn.pool with reserved := rest } } := .of_eq
    exact .after spent (.ite (.next (State.keepsBounds_startPicture _ p f slot))
      (.next (State.keepsBounds_startPictureFailed _ f slot)))

theorem execPictureContinuationFrame_bounded (p : ContinuationPosition) (f : MediaFrame) :
    Bounded s (execPictureContinuationFrame p f s) :=
  .after s.keepsBounds_beginReturn (.ite .same (.ite (.next (State.keepsBounds_headerFailure _))
    (.ite (.next (State.keepsBounds_continuePicture _ p f))
      (.next (State.keepsBounds_continuationFailed _ f)))))

theorem execSmallUnitFrame_bounded (k : SmallKind) (p : Position) (f : MediaFrame) :
    Bounded s (execSmallUnitFrame k p f s) := by
  refine .after s.keepsBounds_beginReturn (.ite .same
    (.ite (.next (State.keepsBounds_headerFailure _)) ?_))
  split
  · exact .next (State.keepsBounds_countFrame _ _)
  · next credit =>
    exact .ite (.next (State.keepsBounds_startSmall _ k p f credit))
      (.next ((State.keepsBounds_spendSmall _).trans (State.keepsBounds_smallFailed _ p f)))

theorem execUnitKindNoneFrame_bounded (p : Position) (f : MediaFrame) :
    Bounded s (execUnitKindNoneFrame p f s) :=
  .after s.keepsBounds_beginReturn (.ite .same (.ite (.next (State.keepsBounds_headerFailure _))
    (.ite (.next (State.keepsBounds_stray _)) (.next (State.keepsBounds_countFrame _ _)))))

theorem execHeaderCheckFailure_bounded (header : List Byte) :
    Bounded s (execHeaderCheckFailure header s) :=
  .after s.keepsBounds_beginReturn (.ite (.next (State.keepsBounds_headerFailure _)) .same)

theorem execIngestLinkUp_bounded : Bounded s (execIngestLinkUp s) :=
  .after s.keepsBounds_beginReturn (.ite .same (.next (.of_eq rfl le_rfl le_rfl)))

theorem execIngestLinkDown_bounded (inHand : Nat) : Bounded s (execIngestLinkDown inHand s) := by
  have lost := s.beginReturn.keepsBounds_ingestLoss
  refine .after s.keepsBounds_beginReturn ?_
  unfold execIngestLinkDown
  dsimp only
  generalize s.beginReturn.ingestLoss = t at lost ⊢
  exact .ite .same (.next (lost.trans (.of_eq rfl le_rfl le_rfl)))

theorem execPictureCreditGrant_bounded : Bounded s (execPictureCreditGrant s) :=
  .ite .same (.next (.of_eq rfl le_rfl le_rfl))

/-- R139: as many credits as the buffer has entries for. -/
theorem execSmallCreditGrant_bounded : Bounded s (execSmallCreditGrant s) := by
  have granted : s.smallGrant ≤ 128 - s.small.length - s.ingest.smallOutstanding := by
    unfold State.smallGrant
    split
    · exact Nat.min_le_right _ _
    · exact Nat.zero_le _
  refine .ite .same (.next fun ok => ?_)
  obtain ⟨tables, jobs, units⟩ := ok
  refine ⟨tables, jobs, ?_⟩
  show s.small.length + (s.ingest.smallOutstanding + s.smallGrant) ≤ 128
  omega

theorem execDirectiveCreditGrant_bounded : Bounded s (execDirectiveCreditGrant s) :=
  .ite .same (.next (.of_eq rfl le_rfl le_rfl))

theorem execCreditFrameSent_bounded : Bounded s (execCreditFrameSent s) :=
  .after s.keepsBounds_beginReturn (.ite (.next (.of_eq rfl le_rfl le_rfl)) .same)

theorem execReportFrameSent_bounded : Bounded s (execReportFrameSent s) := by
  refine .after s.keepsBounds_beginReturn ?_
  unfold execReportFrameSent
  dsimp only
  split
  · exact .next (.of_eq rfl le_rfl le_rfl)
  · exact .next (.of_eq rfl le_rfl le_rfl)
  · exact .same

theorem execEgressCredit_bounded (f : RawFrame) : Bounded s (execEgressCredit f s) :=
  .after s.keepsBounds_beginReturn (.ite (.next (.of_eq rfl le_rfl le_rfl)) .same)

theorem execEgressLinkUp_bounded : Bounded s (execEgressLinkUp s) :=
  .after s.keepsBounds_beginReturn (.next (.of_eq rfl le_rfl le_rfl))

theorem execEgressLinkDown_bounded : Bounded s (execEgressLinkDown s) :=
  .after s.keepsBounds_beginReturn (.ite .same (.next (.startStall (.of_eq rfl le_rfl le_rfl))))

theorem execEgressRead_bounded (o : ReadOutcome) : Bounded s (execEgressRead o s) := by
  refine .after s.keepsBounds_beginReturn ?_
  unfold execEgressRead
  dsimp only
  split
  · next e _ _ _ _ =>
    exact .after (State.keepsBounds_reportRead _ o e.faultRecord)
      (.next (.startStall (.of_eq rfl le_rfl le_rfl)))
  · exact .same

theorem execEgressFrameBegin_bounded : Bounded s (execEgressFrameBegin s) := by
  refine .after s.keepsBounds_beginReturn ?_
  unfold execEgressFrameBegin
  dsimp only
  split
  · exact .ite (.next (.of_eq rfl le_rfl le_rfl)) .same
  · exact .same

theorem execEgressFrameSent_bounded : Bounded s (execEgressFrameSent s) := by
  refine .after s.keepsBounds_beginReturn ?_
  unfold execEgressFrameSent
  dsimp only
  split
  · exact .next (.startStall (.of_eq rfl le_rfl le_rfl))
  · exact .ite (.next (.startStall (.settleHold (.of_eq rfl le_rfl le_rfl))))
      (.next (.startStall (.of_eq rfl le_rfl le_rfl)))
  · exact .same

theorem execStallTimerExpiry_bounded : Bounded s (execStallTimerExpiry s) :=
  .after s.keepsBounds_beginReturn (.ite (.next (.raise (.of_eq rfl le_rfl le_rfl))) .same)

theorem execDecodeDispatch_bounded : Bounded s (execDecodeDispatch s) := by
  refine .after s.keepsBounds_beginReturn ?_
  unfold execDecodeDispatch
  dsimp only
  split
  · exact .next (State.keepsBounds_startDecode _ _ _)
  · exact .same

theorem execDecodeCompletion_bounded (e : DecodeEngineId) (o : ReadOutcome) (decodable : Bool) :
    Bounded s (execDecodeCompletion e o decodable s) := by
  refine .after s.keepsBounds_beginReturn ?_
  unfold execDecodeCompletion
  dsimp only
  split
  · next d abandoned _ =>
    have drawn (good : Bool) : s.beginReturn.KeepsBounds
        ((s.beginReturn.reportRead o d.faultRecord).drawDecoded d good) := .of_eq
    exact .after (drawn _) (.ite (.next (State.keepsBounds_finishDecode _ e d _).settleHold)
      (.next (State.keepsBounds_abandonDecode _ e d).settleHold))
  · exact .same

theorem execTakeHeldPicture_bounded : Bounded s (execTakeHeldPicture s) := by
  refine .after s.keepsBounds_beginReturn ?_
  unfold execTakeHeldPicture
  dsimp only
  split
  · exact .same
  · split
    · next pic _ =>
      split
      · next room =>
        have taken := s.beginReturn.keepsBounds_takePicture room
        generalize s.beginReturn.takePicture pic = t at taken ⊢
        exact .after taken (.after (t.keepsBounds_clearDecode pic.channel)
          (.next (.of_eq rfl le_rfl le_rfl)))
      · exact .same
    · exact .same

theorem execEngineDispatch_bounded : Bounded s (execEngineDispatch s) := by
  refine .after s.keepsBounds_beginReturn ?_
  unfold execEngineDispatch
  dsimp only
  split
  · split
    · exact .same
    · split
      · refine .ite .same ?_
        split
        · exact .fault _
        · exact .next (State.keepsBounds_startJob _ _ _ _ _)
      · exact .same
  · exact .same

theorem execSkipCompletion_bounded (ch : ChannelId) (r : Fin 4) :
    Bounded s (execSkipCompletion ch r s) := by
  refine .after s.keepsBounds_beginReturn ?_
  unfold execSkipCompletion
  dsimp only
  split
  · split
    · exact .ite (.next (State.keepsBounds_completeSkip _ _ _)) .same
    · exact .same
  · exact .same

theorem execEncodeCompletion_bounded (e : EncodeEngineId) (r : CompletionReport) :
    Bounded s (execEncodeCompletion e r s) := by
  refine .after s.keepsBounds_beginReturn ?_
  unfold execEncodeCompletion
  dsimp only
  split
  · exact .ite (.ite (.next (State.keepsBounds_completeJob _ _ _ _ _ _).settleHold)
      (.next (State.keepsBounds_abandonJob _ _ _ _ _ _).settleHold)) .same
  · exact .same

theorem execEncodeEngineRead_bounded (e : EncodeEngineId) (r : EngineRead) (o : ReadOutcome) :
    Bounded s (execEncodeEngineRead e r o s) := by
  refine .after s.keepsBounds_beginReturn ?_
  unfold execEncodeEngineRead
  dsimp only
  split
  · split
    · exact .same
    · exact .next .of_eq
  · exact .same

theorem execSegmentRecord_bounded (ch : ChannelId) : Bounded s (execSegmentRecord ch s) := by
  refine .after s.keepsBounds_beginReturn ?_
  unfold execSegmentRecord
  dsimp only
  split
  · exact .same
  · exact .ite .same (.next (.of_set rfl (Channel.keepsTable_tail rfl rfl)))

theorem execFinalSegmentClose_bounded (ch : ChannelId) :
    Bounded s (execFinalSegmentClose ch s) := by
  refine .after s.keepsBounds_beginReturn ?_
  unfold execFinalSegmentClose
  dsimp only
  split
  · exact .same
  · exact .ite (.next (.modChannel ((Channel.keepsTable_modNewest _ _).trans .of_eq))) .same

theorem execDrainCompletion_bounded (ch : ChannelId) : Bounded s (execDrainCompletion ch s) :=
  .after s.keepsBounds_beginReturn (.ite (.next (State.keepsBounds_endChannel _ _ _).raise) .same)

theorem execAbortCompletion_bounded (ch : ChannelId) : Bounded s (execAbortCompletion ch s) :=
  .after s.keepsBounds_beginReturn (.next (State.keepsBounds_finishAbort _ _).raiseAll)

theorem execProcessAudioUnit_bounded : Bounded s (execProcessAudioUnit s) := by
  refine .after s.keepsBounds_beginReturn ?_
  unfold execProcessAudioUnit
  dsimp only
  split
  · next u _ _ =>
    have evaluated := s.beginReturn.keepsBounds_evaluateMarkers (s.beginReturn.smallMarked u 0)
    split
    · exact .same
    · generalize s.beginReturn.evaluateMarkers (s.beginReturn.smallMarked u 0) = t at evaluated ⊢
      exact .ite (.ite .same (.next (evaluated.trans
        ((t.keepsBounds_sendAudio u).trans (State.keepsBounds_releaseHead _)))))
        (.next (evaluated.trans t.keepsBounds_releaseHead))
  · exact .same

theorem execProcessCueUnit_bounded : Bounded s (execProcessCueUnit s) := by
  refine .after s.keepsBounds_beginReturn ?_
  unfold execProcessCueUnit
  dsimp only
  split
  · split
    · exact .same
    · exact .ite (.next ((State.keepsBounds_evaluateMarkers _ _).trans
        (State.keepsBounds_releaseHead _))) (.next (State.keepsBounds_releaseHead _))
  · exact .same

theorem execIdleTimerExpiry_bounded : Bounded s (execIdleTimerExpiry s) :=
  .after s.keepsBounds_beginReturn (.ite (.next .of_eq) .same)

end Commands

/-! ### Directives keep the bounds -/

section Directives
variable (b : List Byte) (s : State)

theorem takeSetLink_keepsBounds : s.KeepsBounds (takeSetLink b s).1 := by
  unfold takeSetLink
  dsimp only
  split
  · exact .refl
  · exact .startStall .of_eq

theorem takeLoadProfile_keepsBounds : s.KeepsBounds (takeLoadProfile b s).1 := by
  rcases takeLoadProfile_cases b s with same | ⟨p, -, -, stored⟩
  · rw [same]; exact .refl
  · rw [stored]; exact .of_eq

theorem takeReadProfile_keepsBounds : s.KeepsBounds (takeReadProfile b s).1 := by
  unfold takeReadProfile; split <;> exact .refl

theorem takeReadWindow_keepsBounds : s.KeepsBounds (takeReadWindow b s).1 := by
  unfold takeReadWindow; split <;> exact .refl

theorem takeReadMarker_keepsBounds : s.KeepsBounds (takeReadMarker b s).1 := by
  unfold takeReadMarker; split <;> exact .refl

theorem takeQueryChannel_keepsBounds : s.KeepsBounds (takeQueryChannel b s).1 := by
  unfold takeQueryChannel; split <;> exact .refl

theorem takeLoadWindow_keepsBounds : s.KeepsBounds (takeLoadWindow b s).1 := by
  unfold takeLoadWindow
  split
  · exact .refl
  · split
    · exact .refl
    · exact .of_eq

theorem takeLoadMarker_keepsBounds : s.KeepsBounds (takeLoadMarker b s).1 := by
  unfold takeLoadMarker
  split
  · exact .refl
  · split
    · exact .refl
    · exact .of_eq

/-- R3: a channel opens with an empty table. -/
theorem State.keepsBounds_openWith (ch : ChannelId) (course : BitVec 24) (p : ProfileId)
    (cls : Fin 4) : s.KeepsBounds (s.openWith ch course p cls) :=
  .of_set rfl (fun _ => Channel.tableOk_of_empty rfl) le_rfl le_rfl

theorem takeOpen_keepsBounds : s.KeepsBounds (takeOpen b s).1 := by
  unfold takeOpen
  split
  · exact .refl
  · exact .refl
  · split
    · exact .refl
    · dsimp only
      split
      · exact .refl
      · split
        · exact .refl
        · split
          · exact .refl
          · exact s.keepsBounds_openWith _ _ _ _

theorem takeClose_keepsBounds : s.KeepsBounds (takeClose b s).1 := by
  unfold takeClose
  split
  · exact .refl
  · split
    · exact .refl
    · exact .refl
    · exact .refl
    · exact .trans (.modChannel .of_eq) (State.keepsBounds_discardPartial _ _)

theorem takeAbort_keepsBounds : s.KeepsBounds (takeAbort b s).1 := by
  cases hch : objectNumber 32 (bodyNat b 0 1) with
  | none => rw [takeAbort_of_badChannel hch]; exact .refl
  | some ch =>
    have aborted := (s.keepsBounds_abortWork ch).trans (State.keepsBounds_finishAbort _ ch)
    cases hs : (s.channel ch).state with
    | closed => rw [takeAbort_of_closed hch hs]; exact .refl
    | aborting => rw [takeAbort_of_aborting hch hs]; exact .refl
    | running => rw [takeAbort_of_live hch (.inl hs)]; exact aborted
    | draining => rw [takeAbort_of_live hch (.inr hs)]; exact aborted

theorem State.KeepsBounds.decideHold {s t : State} (h : s.KeepsBounds t) :
    s.KeepsBounds t.decideHold.1 := by
  rcases t.decideHold_spec with same | ⟨-, -, held⟩
  · rw [same]; exact h
  · rw [held]; exact h.trans .of_eq

theorem takeHold_keepsBounds : s.KeepsBounds (takeHold b s).1 := by
  have entered (wait : Nat) (egressEmpty : Bool) :
      s.KeepsBounds (s.enterHold wait egressEmpty).1 := by
    unfold State.enterHold
    dsimp only
    split
    · exact .decideHold (.of_eq rfl le_rfl le_rfl)
    · split
      · exact .of_eq
      · exact .of_eq rfl le_rfl le_rfl
  unfold takeHold
  split
  · exact .refl
  · split
    · exact .refl
    · split
      · exact .refl
      · exact entered _ _

theorem takeRelease_keepsBounds : s.KeepsBounds (takeRelease b s).1 := by
  unfold takeRelease
  split
  · exact .refl
  · exact .of_eq
  · exact .of_eq

end Directives

/-- R19, R113 and R147: with every record cleared and the queues empty the bounds hold. -/
theorem State.queueBounds_of_cleared {s : State}
    (hc : s.channels = Vector.replicate 32 Channel.cleared) (hj : s.jobs = []) (hu : s.small = [])
    (hi : s.ingest.smallOutstanding = 0) : s.QueueBounds := by
  refine ⟨fun ch => ?_, by simp [hj], by simp [hu, hi]⟩
  have record : s.channel ch = Channel.cleared := by simp [State.channel, hc]
  rw [record]
  exact Channel.tableOk_of_empty rfl

theorem takeRestart_keepsBounds (b : List Byte) (s : State) :
    s.KeepsBounds (takeRestart b s).1 := by
  refine fun _ => State.queueBounds_of_cleared rfl rfl rfl ?_
  show s.ingest.restart.smallOutstanding = 0
  unfold IngestPort.restart
  dsimp only
  split <;> rfl

/-- R135 to R137 and R144: the admission of a directive frame ends in a header check failure, or
writes at most the ingest port and not its SMALL credits. -/
theorem State.admitDirective_cases (s : State) (f : DirectiveFrame) :
    s.admitDirective f = .ended s.headerFailure
      ∨ ∃ i : IngestPort, i.smallOutstanding = s.ingest.smallOutstanding
        ∧ (s.admitDirective f = .ended { s with ingest := i }
          ∨ s.admitDirective f = .admitted { s with ingest := i }) := by
  unfold State.admitDirective
  split
  · exact .inr ⟨s.ingest, rfl, .inr rfl⟩
  · split
    · exact .inr ⟨s.ingest, rfl, .inl rfl⟩
    · split
      · exact .inl rfl
      · split
        · exact .inr ⟨_, by rfl, .inl rfl⟩
        · dsimp only
          split
          · exact .inr ⟨_, by rfl, .inr rfl⟩
          · exact .inr ⟨_, by rfl, .inl rfl⟩

/-- What follows a directive frame's admission keeps the bounds when it does so on the state the
frame is admitted in. -/
theorem Bounded.of_admission {s : State} {f : DirectiveFrame} {g : State → State}
    (h : ∀ u : State, u.KeepsBounds (g u)) :
    Bounded s (match s.beginReturn.admitDirective f with
      | .ended t => .next t
      | .admitted t => .next (g t)) := by
  refine .after s.keepsBounds_beginReturn ?_
  have port {i : IngestPort} (hi : i.smallOutstanding = s.beginReturn.ingest.smallOutstanding) :
      s.beginReturn.KeepsBounds { s.beginReturn with ingest := i } :=
    .of_eq rfl le_rfl (Nat.add_le_add_left hi.le _)
  rcases s.beginReturn.admitDirective_cases f with failed | ⟨i, hi, ended | admitted⟩
  · rw [failed]; exact .next (State.keepsBounds_headerFailure _)
  · rw [ended]; exact .next (port hi)
  · rw [admitted]; exact .next ((port hi).trans (h _))

/-- A directive frame's command keeps the bounds when the directive's own rule does. -/
theorem runDirective_bounded {act : List Byte → State → State × Answer}
    (h : ∀ (b : List Byte) (u : State), u.KeepsBounds (act b u).1) (code : Byte) (n : Nat)
    (f : DirectiveFrame) (s : State) : Bounded s (runDirective code n act f s) := by
  refine Bounded.of_admission (g := fun u => u.takeDirective code n act f) fun u => ?_
  unfold State.takeDirective
  split
  · exact .of_eq rfl le_rfl le_rfl
  · exact (h f.payload.bytes u).trans (.raiseAll (.of_eq rfl le_rfl le_rfl))

theorem execUnknownDirective_bounded (code : Byte) (f : DirectiveFrame) (s : State) :
    Bounded s (execUnknownDirective code f s) :=
  .ite .same (.of_admission fun _ => .of_eq rfl le_rfl le_rfl)

/-! ### The statement (sections 3.1, 5.1, 8.1 and 10.2) -/

/-- Every command keeps the bounds. -/
theorem exec_bounded (c : Instr) (s : State) : Bounded s (exec c s) := by
  cases c with
  | setLink f => exact runDirective_bounded takeSetLink_keepsBounds _ _ f s
  | queryPart f => exact runDirective_bounded (fun _ _ => .refl) _ _ f s
  | loadProfile f => exact runDirective_bounded takeLoadProfile_keepsBounds _ _ f s
  | readProfile f => exact runDirective_bounded takeReadProfile_keepsBounds _ _ f s
  | loadWindow f => exact runDirective_bounded takeLoadWindow_keepsBounds _ _ f s
  | readWindow f => exact runDirective_bounded takeReadWindow_keepsBounds _ _ f s
  | loadMarker f => exact runDirective_bounded takeLoadMarker_keepsBounds _ _ f s
  | readMarker f => exact runDirective_bounded takeReadMarker_keepsBounds _ _ f s
  | clearMatch f => exact runDirective_bounded (fun _ _ => .of_eq rfl le_rfl le_rfl) _ _ f s
  | openChannel f => exact runDirective_bounded takeOpen_keepsBounds _ _ f s
  | closeChannel f => exact runDirective_bounded takeClose_keepsBounds _ _ f s
  | abortChannel f => exact runDirective_bounded takeAbort_keepsBounds _ _ f s
  | queryChannel f => exact runDirective_bounded takeQueryChannel_keepsBounds _ _ f s
  | readFaultLog f => exact runDirective_bounded (fun _ _ => .refl) _ _ f s
  | clearFaultLog f => exact runDirective_bounded (fun _ _ => .of_eq rfl le_rfl le_rfl) _ _ f s
  | hold f => exact runDirective_bounded takeHold_keepsBounds _ _ f s
  | release f => exact runDirective_bounded takeRelease_keepsBounds _ _ f s
  | restart f => exact runDirective_bounded takeRestart_keepsBounds _ _ f s
  | unknownDirective code f => exact execUnknownDirective_bounded code f s
  | pictureStartFrame p f => exact execPictureStartFrame_bounded s p f
  | pictureContinuationFrame p f => exact execPictureContinuationFrame_bounded s p f
  | smallUnitFrame k p f => exact execSmallUnitFrame_bounded s k p f
  | headerCheckFailure header => exact execHeaderCheckFailure_bounded s header
  | ingestLinkUp => exact execIngestLinkUp_bounded s
  | ingestLinkDown n => exact execIngestLinkDown_bounded s n
  | pictureCreditGrant => exact execPictureCreditGrant_bounded s
  | smallCreditGrant => exact execSmallCreditGrant_bounded s
  | directiveCreditGrant => exact execDirectiveCreditGrant_bounded s
  | creditFrameSent => exact execCreditFrameSent_bounded s
  | reportFrameSent => exact execReportFrameSent_bounded s
  | egressCredit f => exact execEgressCredit_bounded s f
  | egressLinkUp => exact execEgressLinkUp_bounded s
  | egressLinkDown => exact execEgressLinkDown_bounded s
  | egressRead o => exact execEgressRead_bounded s o
  | egressFrameBegin => exact execEgressFrameBegin_bounded s
  | egressFrameSent => exact execEgressFrameSent_bounded s
  | stallTimerExpiry => exact execStallTimerExpiry_bounded s
  | decodeDispatch => exact execDecodeDispatch_bounded s
  | decodeCompletion e o d => exact execDecodeCompletion_bounded s e o d
  | takeHeldPicture => exact execTakeHeldPicture_bounded s
  | engineDispatch => exact execEngineDispatch_bounded s
  | skipCompletion ch r => exact execSkipCompletion_bounded s ch r
  | encodeCompletion e r => exact execEncodeCompletion_bounded s e r
  | segmentRecord ch => exact execSegmentRecord_bounded s ch
  | finalSegmentClose ch => exact execFinalSegmentClose_bounded s ch
  | drainCompletion ch => exact execDrainCompletion_bounded s ch
  | abortCompletion ch => exact execAbortCompletion_bounded s ch
  | processCueUnit => exact execProcessCueUnit_bounded s
  | processAudioUnit => exact execProcessAudioUnit_bounded s
  | idleTimerExpiry => exact execIdleTimerExpiry_bounded s
  | powerOnReset => exact .next fun _ => State.queueBounds_of_cleared rfl rfl rfl rfl
  | encodeEngineRead e r o => exact execEncodeEngineRead_bounded s e r o
  | unitKindNoneFrame p f => exact execUnitKindNoneFrame_bounded s p f

/-- Settles O8: a step is a command on the rest of the queue, which plays no part in the bounds. -/
theorem queueBoundsKept : Obligations.QueueBoundsKept := by
  intro s t ok h
  unfold step at h
  split at h
  · cases h; exact ok
  · exact exec_bounded _ _ t h ok

end Sys2Proof.Machine

/-! SUPPORT. Rate control (chapter 4): the arithmetic of R62 to R65 bracketed and bounded, one lemma
to each quantity, and the fullness update of R68 case by case. Then the two statements. -/

namespace Sys2Proof.Machine

section Arithmetic
variable {x : RenditionSpec} {delta fullness : Nat}

/-! ### The ranges of a rendition's fields (section 2.1) -/

theorem RenditionSpec.InRange.bitrate (h : x.InRange) :
    64000 ≤ x.bitrate ∧ x.bitrate ≤ 20000000 := by
  obtain ⟨-, -, -, -, -, -, slowest, fastest, -⟩ := h
  exact ⟨slowest, fastest⟩

theorem RenditionSpec.InRange.bufferSize_pos (h : x.InRange) : 0 < x.bufferSize := by
  obtain ⟨-, -, -, -, -, -, slowest, -, shortest, -⟩ := h
  exact Nat.mul_pos (le_trans (by decide) slowest) shortest

theorem RenditionSpec.InRange.qmin_le_qmax (h : x.InRange) : x.qmin ≤ x.qmax := by
  obtain ⟨-, -, -, -, -, -, -, -, -, -, -, least, most, -⟩ := h
  exact least.trans most

theorem RenditionSpec.InRange.gain_le (h : x.InRange) : x.gain ≤ 15 := by
  obtain ⟨-, -, -, -, -, -, -, -, -, -, -, -, -, -, gain, -⟩ := h
  exact gain

/-! ### The budget and the fullness index (R62, R63) -/

theorem RenditionSpec.budget_bracket :
    x.budget delta * 48000 ≤ x.bitrate * delta
      ∧ x.bitrate * delta < (x.budget delta + 1) * 48000 :=
  ⟨Nat.div_mul_le_self _ _, (Nat.div_lt_iff_lt_mul (by decide)).1 (Nat.lt_succ_self _)⟩

/-- R62: the slowest bit rate over one tick still has a budget of 1. -/
theorem RenditionSpec.InRange.one_le_budget (h : x.InRange) (hd : 1 ≤ delta) :
    1 ≤ x.budget delta := by
  have bits : 64000 * 1 ≤ x.bitrate * delta := Nat.mul_le_mul h.bitrate.1 hd
  exact (Nat.one_le_div_iff (by decide)).2 (le_trans (by decide) bits)

/-- R62: the fastest bit rate over two seconds. -/
theorem RenditionSpec.InRange.budget_le (h : x.InRange) (hd : delta ≤ 96000) :
    x.budget delta ≤ 40000000 := by
  have bits : x.bitrate * delta ≤ 20000000 * 96000 := Nat.mul_le_mul h.bitrate.2 hd
  exact Nat.div_le_of_le_mul (le_trans bits (by decide))

theorem RenditionSpec.fullnessIndex_bracket (h : 0 < x.bufferSize) :
    x.fullnessIndex fullness * x.bufferSize ≤ fullness * 64
      ∧ fullness * 64 < (x.fullnessIndex fullness + 1) * x.bufferSize :=
  ⟨Nat.div_mul_le_self _ _, (Nat.div_lt_iff_lt_mul h).1 (Nat.lt_succ_self _)⟩

theorem RenditionSpec.fullnessIndex_le (hf : fullness ≤ x.bufferSize) :
    x.fullnessIndex fullness ≤ 64 :=
  Nat.div_le_of_le_mul (Nat.mul_le_mul_right 64 hf)

/-- R63: only a full buffer has the index 64. -/
theorem RenditionSpec.fullnessIndex_eq_iff (h : 0 < x.bufferSize) (hf : fullness ≤ x.bufferSize) :
    x.fullnessIndex fullness = 64 ↔ fullness = x.bufferSize := by
  constructor
  · intro top
    obtain ⟨floor, -⟩ := x.fullnessIndex_bracket (fullness := fullness) h
    rw [top] at floor
    omega
  · rintro rfl
    exact Nat.mul_div_right 64 h

/-! ### The offset (R63) -/

/-- R63: what the offset is an eighth of, truncated toward zero. -/
def RenditionSpec.offsetProduct (x : RenditionSpec) (fullness : Nat) : Int :=
  ((x.fullnessIndex fullness : Int) - 32) * (x.gain : Int)

theorem RenditionSpec.offset_eq_tdiv : x.offset fullness = (x.offsetProduct fullness).tdiv 8 := rfl

theorem RenditionSpec.natAbs_offset :
    (x.offset fullness).natAbs = (x.offsetProduct fullness).natAbs / 8 := by
  rw [offset_eq_tdiv, Int.natAbs_tdiv]
  rfl

theorem RenditionSpec.offset_bracket :
    8 * (x.offset fullness).natAbs ≤ (x.offsetProduct fullness).natAbs
      ∧ (x.offsetProduct fullness).natAbs < 8 * (x.offset fullness).natAbs + 8 := by
  rw [natAbs_offset]
  omega

/-- R63: truncation toward zero leaves the sign. -/
theorem RenditionSpec.offset_mul_product_nonneg :
    0 ≤ x.offset fullness * x.offsetProduct fullness := by
  rw [offset_eq_tdiv]
  rcases le_total 0 (x.offsetProduct fullness) with pos | neg
  · exact Int.mul_nonneg (Int.tdiv_nonneg pos (by decide)) pos
  · have opposite : 0 ≤ (-x.offsetProduct fullness).tdiv 8 :=
      Int.tdiv_nonneg (neg_nonneg.2 neg) (by decide)
    rw [Int.neg_tdiv] at opposite
    exact mul_nonneg_of_nonpos_of_nonpos (neg_nonneg.1 opposite) neg

/-- R63: at most 32 steps of the index, each of at most 15 eighths. -/
theorem RenditionSpec.InRange.natAbs_offset_le (h : x.InRange) (hf : fullness ≤ x.bufferSize) :
    (x.offset fullness).natAbs ≤ 60 := by
  have index := x.fullnessIndex_le hf
  have steps : ((x.fullnessIndex fullness : Int) - 32).natAbs ≤ 32 := by omega
  have product : (x.offsetProduct fullness).natAbs ≤ 32 * 15 := by
    rw [offsetProduct, Int.natAbs_mul, Int.natAbs_natCast]
    exact Nat.mul_le_mul steps h.gain_le
  rw [natAbs_offset]
  omega

end Arithmetic

/-! ### The quality index (R64) -/

section Clamp
variable {x lo hi : Int}

theorem le_clampInt : lo ≤ clampInt x lo hi := le_max_left _ _

theorem clampInt_le (h : lo ≤ hi) : clampInt x lo hi ≤ hi := max_le h (min_le_right _ _)

theorem clampInt_of_lt (h : x < lo) : clampInt x lo hi = lo :=
  max_eq_left ((min_le_left _ _).trans h.le)

theorem clampInt_of_gt (h : lo ≤ hi) (hx : hi < x) : clampInt x lo hi = hi := by
  rw [clampInt, min_eq_right hx.le, max_eq_right h]

theorem clampInt_of_mem (hlo : lo ≤ x) (hhi : x ≤ hi) : clampInt x lo hi = x := by
  rw [clampInt, min_eq_left hhi, max_eq_right hlo]

end Clamp

/-- The limits are not below zero, so that R64's clamp is a natural number. -/
theorem RenditionSpec.qualityIndex_cast (x : RenditionSpec) (fullness : Nat) (key : Bool) :
    (x.qualityIndex fullness key : Int) =
      clampInt ((x.qnom : Int) + x.offset fullness - (if key then (x.keyOffset : Int) else 0))
        x.qmin x.qmax :=
  Int.toNat_of_nonneg ((Int.natCast_nonneg _).trans le_clampInt)

/-! ### The output dimensions (R65) -/

/-- R65: a picture's dimension `n` is rounded down to a multiple of `step` and limited to the
rendition's own. A lower bound survives the rounding because it is a multiple of `step` itself. -/
theorem min_roundDown_spec {own n step lo hi : Nat} (own_grid : step ∣ own) (lo_grid : step ∣ lo)
    (lo_own : lo ≤ own) (own_hi : own ≤ hi) (lo_n : lo ≤ n) :
    min own (n / step * step) = min own (n - n % step)
      ∧ min own (n / step * step) % step = 0
      ∧ lo ≤ min own (n / step * step) ∧ min own (n / step * step) ≤ hi := by
  refine ⟨?_, ?_, le_min lo_own ?_, (min_le_left _ _).trans own_hi⟩
  · rw [Nat.div_mul_self_eq_mod_sub_self]
  · rcases min_choice own (n / step * step) with limited | rounded
    · rw [limited]; exact Nat.mod_eq_zero_of_dvd own_grid
    · rw [rounded]; exact Nat.mul_mod_left _ _
  · calc lo = lo / step * step := (Nat.div_mul_cancel lo_grid).symm
      _ ≤ n / step * step := Nat.mul_le_mul_right step (Nat.div_le_div_right lo_n)

/-! ### The fullness update (R68) -/

section Fullness
variable {size : Nat} {f : Int}

theorem RenditionContext.applyFullness_of_overflow (ctx : RenditionContext) (h : (size : Int) < f) :
    ctx.applyFullness f size = { ctx with fullness := size, skipPending := true } := if_pos h

theorem ChannelCounters.applyFullness_of_overflow (n : ChannelCounters) (h : (size : Int) < f) :
    n.applyFullness f size = n.overflowed := if_pos h

theorem RenditionContext.applyFullness_of_underflow (ctx : RenditionContext) (h : f < 0) :
    ctx.applyFullness f size = { ctx with fullness := 0 } := by
  rw [applyFullness, if_neg (by omega), if_pos h]

theorem ChannelCounters.applyFullness_of_underflow (n : ChannelCounters) (h : f < 0) :
    n.applyFullness f size = n.underflowed := by
  rw [applyFullness, if_neg (by omega), if_pos h]

theorem RenditionContext.applyFullness_of_mem (ctx : RenditionContext) (h0 : 0 ≤ f)
    (h : f ≤ size) : ctx.applyFullness f size = { ctx with fullness := f.toNat } := by
  rw [applyFullness, if_neg h.not_gt, if_neg h0.not_gt]

theorem ChannelCounters.applyFullness_of_mem (n : ChannelCounters) (h0 : 0 ≤ f) (h : f ≤ size) :
    n.applyFullness f size = n := by
  rw [applyFullness, if_neg h.not_gt, if_neg h0.not_gt]

end Fullness

/-- R18: a counter of 32 bits stops at its highest value. -/
theorem count32_eq_min (n : Nat) : count32 n = min 4294967295 (n + 1) := rfl

/-- R68: the update writes the rendition's context and the counters, and only those. -/
theorem Channel.updateFullness_eq {c : Channel} {r : Nat} {ctx : RenditionContext}
    (h : c.contexts[r]? = some ctx) (x : RenditionSpec) (delta size : Nat) :
    c.updateFullness x r delta size = { c with
      contexts := c.contexts.set r
        (ctx.applyFullness (newFullness ctx.fullness size (x.budget delta)) x.bufferSize)
      counters := c.counters.applyFullness (newFullness ctx.fullness size (x.budget delta))
        x.bufferSize } := by
  simp only [updateFullness, h, modContext, List.modify_eq_set_getElem?, Option.map_eq_map,
    Option.map_some, Option.getD_some]

/-! ### The statements (sections 4.2 to 4.4) -/

/-- Settles O18, quantity by quantity. -/
theorem rateArithmetic : Obligations.RateArithmetic := by
  refine ⟨fun x fullness delta h hf hd hd' => ?_, fun x fullness key h => ?_,
    fun x width height h hw _ hh _ => ?_⟩
  · obtain ⟨budget_floor, budget_ceil⟩ := x.budget_bracket (delta := delta)
    obtain ⟨index_floor, index_ceil⟩ := x.fullnessIndex_bracket (fullness := fullness)
      h.bufferSize_pos
    obtain ⟨toward_zero, within_one⟩ := x.offset_bracket (fullness := fullness)
    have bound := h.natAbs_offset_le hf
    exact ⟨⟨budget_floor, budget_ceil, h.one_le_budget hd, h.budget_le hd'⟩,
      ⟨index_floor, index_ceil, x.fullnessIndex_le hf,
        x.fullnessIndex_eq_iff h.bufferSize_pos hf⟩,
      toward_zero, within_one, x.offset_mul_product_nonneg, by omega, by omega⟩
  · have limits : (x.qmin : Int) ≤ x.qmax := Int.ofNat_le.2 h.qmin_le_qmax
    have cast := x.qualityIndex_cast fullness key
    rw [← Int.ofNat_le, ← Int.ofNat_le, ← Int.ofNat_inj, ← Int.ofNat_inj, cast]
    exact ⟨le_clampInt, clampInt_le limits, clampInt_of_lt, clampInt_of_gt limits,
      clampInt_of_mem⟩
  · obtain ⟨own_width, own_width', width_grid, own_height, own_height', height_grid, -⟩ := h
    obtain ⟨w_eq, w_grid, w_lo, w_hi⟩ := min_roundDown_spec (Nat.dvd_of_mod_eq_zero width_grid)
      (by decide) own_width own_width' hw
    obtain ⟨h_eq, h_grid, h_lo, h_hi⟩ := min_roundDown_spec (Nat.dvd_of_mod_eq_zero height_grid)
      (by decide) own_height own_height' hh
    exact ⟨w_eq, h_eq, w_grid, w_lo, w_hi, h_grid, h_lo, h_hi⟩

/-- Settles O19: the three cases of R68's clamp. -/
theorem fullnessUpdate : Obligations.FullnessUpdate := by
  intro c x r delta size ctx h f limit
  have update : c.updateFullness x r delta size = { c with
      contexts := c.contexts.set r (ctx.applyFullness f limit)
      counters := c.counters.applyFullness f limit } := c.updateFullness_eq h x delta size
  refine ⟨fun above => ?_, fun below => ?_, fun nonneg within => ?_⟩
  · rw [update, ctx.applyFullness_of_overflow above, c.counters.applyFullness_of_overflow above,
      ChannelCounters.overflowed, count32_eq_min]
  · rw [update, ctx.applyFullness_of_underflow below, c.counters.applyFullness_of_underflow below,
      ChannelCounters.underflowed, count32_eq_min]
  · rw [update, ctx.applyFullness_of_mem nonneg within,
      c.counters.applyFullness_of_mem nonneg within]

end Sys2Proof.Machine

/-! SUPPORT. The job queue and the encode engines (chapter 5): which job is eligible and which is
selected, then ENGINE_DISPATCH, SKIP_COMPLETION and ENCODE_COMPLETION. For each of them first what
it decides, then one equation for what it writes, then its statement. -/

namespace Sys2Proof.Machine

/-! ### Eligibility (R76) -/

theorem Job.sameRendition_iff (j k : Job) :
    j.sameRendition k = true ↔ j.channel = k.channel ∧ j.rendition = k.rendition := by
  simp only [sameRendition, Bool.and_eq_true, beq_iff_eq]

/-- R76, the part state apart: a QUEUED job, no older one of its rendition QUEUED and none of them
RUNNING. -/
theorem eligibleAt_iff {jobs : List Job} {i : Nat} {k : Job} (hk : jobs[i]? = some k) :
    eligibleAt jobs i = true ↔ k.state = .queued
      ∧ (∀ (h : Nat) (x : Job), h < i → jobs[h]? = some x →
        x.channel = k.channel → x.rendition = k.rendition → x.state ≠ .queued)
      ∧ ∀ x ∈ jobs, x.channel = k.channel → x.rendition = k.rendition → x.state = .queued := by
  have older : (jobs.take i).all (fun x => !(x.sameRendition k && x.isQueued)) = true ↔
      ∀ (h : Nat) (x : Job), h < i → jobs[h]? = some x →
        x.channel = k.channel → x.rendition = k.rendition → x.state ≠ .queued := by
    simp only [List.all_eq_true, List.mem_iff_getElem?, List.getElem?_take,
      Option.ite_none_right_eq_some, Bool.not_eq_true', ← Bool.not_eq_true, Bool.and_eq_true,
      Job.sameRendition_iff, Job.isQueued_iff, not_and]
    exact ⟨fun all h x hi hx hc hr => all x ⟨h, hi, hx⟩ ⟨hc, hr⟩,
      fun all x ⟨h, hi, hx⟩ ⟨hc, hr⟩ => all h x hi hx hc hr⟩
  have running : jobs.all (fun x => !(x.sameRendition k && x.isRunning)) = true ↔
      ∀ x ∈ jobs, x.channel = k.channel → x.rendition = k.rendition → x.state = .queued := by
    simp only [List.all_eq_true, Bool.not_eq_true', Bool.and_eq_false_imp, Job.sameRendition_iff,
      Job.isRunning, Bool.not_eq_false', Job.isQueued_iff, and_imp]
  rw [← older, ← running, ← Job.isQueued_iff, eligibleAt, hk]
  simp only [Bool.and_eq_true, and_assoc]

/-! ### Selection (R77) -/

/-- R76 and R77: the job at index `i` is `k`, an eligible engine job. -/
def EligibleEngineJob (jobs : List Job) (i : Nat) (k : Job) : Prop :=
  jobs[i]? = some k ∧ k.state = .queued ∧ k.skip = false
    ∧ (∀ (h : Nat) (x : Job), h < i → jobs[h]? = some x →
      x.channel = k.channel → x.rendition = k.rendition → x.state ≠ .queued)
    ∧ ∀ x ∈ jobs, x.channel = k.channel → x.rendition = k.rendition → x.state = .queued

theorem mem_engineCandidates_iff {jobs : List Job} {i : Nat} :
    i ∈ engineCandidates jobs ↔ ∃ k, EligibleEngineJob jobs i k := by
  cases hk : jobs[i]? with
  | none => simp [engineCandidates, EligibleEngineJob, eligibleAt, hk]
  | some k =>
    obtain ⟨inside, -⟩ := List.getElem?_eq_some_iff.1 hk
    have is_k : (∃ x, EligibleEngineJob jobs i x) ↔ EligibleEngineJob jobs i k :=
      ⟨fun ⟨x, hx⟩ => Option.some.inj (hk.symm.trans hx.1) ▸ hx, fun h => ⟨k, h⟩⟩
    rw [is_k]
    simp only [engineCandidates, List.mem_filter, List.mem_range, inside, hk, Bool.and_eq_true,
      eligibleAt_iff hk, Bool.not_eq_true', EligibleEngineJob, true_and]
    tauto

/-- R77: the candidates stand in queue order. -/
theorem engineCandidates_pairwise (jobs : List Job) : (engineCandidates jobs).Pairwise (· < ·) :=
  List.pairwise_lt_range.filter _

section Selection
variable {jobs : List Job} {i : Nat} {j : Job} (hj : jobs[i]? = some j)
include hj

/-- R77: a job of a higher class than the one preferred so far takes its place. -/
theorem preferJob_of_higher {best : Option Nat}
    (h : ∀ b ∈ best, ∃ k, jobs[b]? = some k ∧ k.cls < j.cls) : preferJob jobs best i = some i := by
  cases best with
  | none => simp only [preferJob, hj]
  | some b =>
    obtain ⟨k, hk, lower⟩ := h b rfl
    simp only [preferJob, hj, hk, if_pos lower]

/-- R77: jobs of no higher class leave the one preferred so far. -/
theorem foldl_preferJob_of_not_higher {l : List Nat}
    (h : ∀ b ∈ l, ∀ k, jobs[b]? = some k → k.cls ≤ j.cls) :
    l.foldl (preferJob jobs) (some i) = some i := by
  induction l with
  | nil => rfl
  | cons b l ih =>
    have stays : preferJob jobs (some i) b = some i := by
      cases hb : jobs[b]? with
      | none => simp only [preferJob, hb]
      | some k => simp only [preferJob, hb, hj, if_neg (h b List.mem_cons_self k hb).not_gt]
    rw [List.foldl_cons, stays]
    exact ih fun x hx => h x (List.mem_cons_of_mem _ hx)

end Selection

/-- What a run of comparisons prefers is one of the jobs compared. -/
theorem mem_of_mem_foldl_preferJob {jobs : List Job} (l : List Nat) {best : Option Nat} {b : Nat}
    (h : b ∈ l.foldl (preferJob jobs) best) : b ∈ best ∨ b ∈ l := by
  induction l generalizing best with
  | nil => exact .inl h
  | cons x l ih =>
    have one : ∀ y ∈ preferJob jobs best x, y ∈ best ∨ y = x := by
      intro y hy
      unfold preferJob at hy
      split at hy
      · exact .inr (Option.some.inj hy).symm
      · split at hy
        · split at hy
          · exact .inr (Option.some.inj hy).symm
          · exact .inl hy
        · exact .inl hy
      · exact .inl hy
    rcases ih h with hb | hb
    · exact (one b hb).imp_right fun e => List.mem_cons.2 (.inl e)
    · exact .inr (List.mem_cons_of_mem x hb)

/-- R77: the candidate of the highest class, and among those the oldest, is selected: all before it
are of lower classes, and none after it is of a higher one. -/
theorem selectJob_eq_some {jobs : List Job} {i : Nat} {j : Job} (hi : EligibleEngineJob jobs i j)
    (best : ∀ h k, EligibleEngineJob jobs h k → k.cls ≤ j.cls ∧ (k.cls = j.cls → i ≤ h)) :
    selectJob jobs = some i := by
  obtain ⟨hj, -⟩ := id hi
  have ordered := engineCandidates_pairwise jobs
  have candidate : ∀ h ∈ engineCandidates jobs, ∃ k, EligibleEngineJob jobs h k :=
    fun _ => mem_engineCandidates_iff.1
  obtain ⟨older, younger, parts⟩ := List.append_of_mem (mem_engineCandidates_iff.2 ⟨j, hi⟩)
  rw [selectJob, parts, List.foldl_append, List.foldl_cons]
  rw [parts] at ordered candidate
  have before : ∀ b ∈ older, ∃ k, jobs[b]? = some k ∧ k.cls < j.cls := by
    intro b hb
    obtain ⟨k, hk⟩ := candidate b (List.mem_append_left _ hb)
    obtain ⟨le, first⟩ := best b k hk
    have earlier : b < i := (List.pairwise_append.1 ordered).2.2 b hb i List.mem_cons_self
    exact ⟨k, hk.1, lt_of_le_of_ne le fun same => (first same).not_gt earlier⟩
  rw [preferJob_of_higher hj fun b hb =>
    before b ((mem_of_mem_foldl_preferJob older hb).resolve_left (Option.not_mem_none b))]
  refine foldl_preferJob_of_not_higher hj fun b hb k hk => ?_
  obtain ⟨x, hx⟩ := candidate b (List.mem_append_right _ (List.mem_cons_of_mem i hb))
  cases hk.symm.trans hx.1
  exact (best b k hx).1

theorem selectJob_eq_none {jobs : List Job} (h : ∀ i k, ¬ EligibleEngineJob jobs i k) :
    selectJob jobs = none := by
  have empty : engineCandidates jobs = [] := List.eq_nil_iff_forall_not_mem.2 fun i hi =>
    (mem_engineCandidates_iff.1 hi).elim (h i)
  rw [selectJob, empty]; rfl

/-! ### The idle engine (R77) -/

theorem State.idleEncodeEngine_eq_some {s : State} {e : EncodeEngineId} (he : s.encode[e] = .idle)
    (first : ∀ g : EncodeEngineId, g < e → s.encode[g] ≠ .idle) :
    s.idleEncodeEngine = some e := by
  rw [idleEncodeEngine, ← Fin.find?_eq_find?_finRange, Fin.find?_eq_some_iff]
  exact ⟨beq_iff_eq.2 he, fun g hg => beq_eq_false_iff_ne.2 (first g hg)⟩

theorem State.idleEncodeEngine_eq_none {s : State}
    (busy : ∀ e : EncodeEngineId, s.encode[e] ≠ .idle) : s.idleEncodeEngine = none := by
  rw [idleEncodeEngine, ← Fin.find?_eq_find?_finRange, Fin.find?_eq_none_iff]
  exact fun e => beq_eq_false_iff_ne.2 (busy e)

@[simp] theorem State.beginReturn_idleEncodeEngine (s : State) :
    s.beginReturn.idleEncodeEngine = s.idleEncodeEngine := by
  simp only [idleEncodeEngine, s.beginReturn_encode]

/-! ### What is read and written of a rendition (section 1.1) -/

theorem State.renditionSpec_eq (s : State) (ch : ChannelId) (r : Fin 4) :
    s.renditionSpec ch r.val = s.profiles[(s.channel ch).profile].renditions[r] :=
  (s.profileOf ch).spec_eq r

@[simp] theorem State.beginReturn_renditionSpec (s : State) (ch : ChannelId) (r : Nat) :
    s.beginReturn.renditionSpec ch r = s.renditionSpec ch r := by
  simp only [renditionSpec, profileOf, s.beginReturn_profiles, s.beginReturn_channels]

theorem Channel.modContext_eq {c : Channel} {r : Nat} {ctx : RenditionContext}
    (h : c.contexts[r]? = some ctx) (f : RenditionContext → RenditionContext) :
    c.modContext r f = { c with contexts := c.contexts.set r (f ctx) } := by
  simp only [modContext, List.modify_eq_set_getElem?, h, Option.map_eq_map, Option.map_some,
    Option.getD_some]

/-! ### ENGINE_DISPATCH (R77 to R79) -/

theorem exec_engineDispatch_of_none {s : State}
    (h : s.hold.part ≠ .running ∨ s.idleEncodeEngine = none ∨ selectJob s.jobs = none) :
    exec .engineDispatch s = .next s.beginReturn := by
  simp only [exec, execEngineDispatch, State.beginReturn_hold, State.beginReturn_idleEncodeEngine,
    State.beginReturn_jobs]
  split
  · next engine i running idle selected => simp [running, idle, selected] at h
  · rfl

section Dispatch
variable {s : State} {e : EncodeEngineId} {i : Nat} {j : Job} {src : SourcePicture}
  {ctx : RenditionContext} (running : s.hold.part = .running) (idle : s.idleEncodeEngine = some e)
  (selected : selectJob s.jobs = some i) (hj : s.jobs[i]? = some j) (hsrc : j.source = some src)
  (hctx : (s.channel j.channel).contexts[j.rendition]? = some ctx)
include running idle selected hj hsrc hctx

theorem exec_engineDispatch_of_selected :
    exec .engineDispatch s =
      if s.egress.room < (s.renditionSpec j.channel j.rendition).capBytes then
        .next s.beginReturn
      else (s.pool.take .recon).elim (.fault .noFreeSlot) fun taken =>
        .next (s.beginReturn.startJob i j
          (dispatchRecord (s.renditionSpec j.channel j.rendition) ctx j src e taken.1)
          taken.2) := by
  simp only [exec, execEngineDispatch, State.beginReturn_hold, State.beginReturn_idleEncodeEngine,
    State.beginReturn_jobs, State.beginReturn_channel, State.beginReturn_renditionSpec,
    State.beginReturn_egress, State.beginReturn_pool, running, idle, selected, hj, hsrc, hctx]
  cases s.pool.take .recon <;> rfl

theorem exec_engineDispatch_of_noRoom
    (small : s.egress.room < (s.renditionSpec j.channel j.rendition).capBytes) :
    exec .engineDispatch s = .next s.beginReturn := by
  rw [exec_engineDispatch_of_selected running idle selected hj hsrc hctx, if_pos small]

theorem exec_engineDispatch_of_room {recon : SlotId} {rest : List SlotId}
    (fits : (s.renditionSpec j.channel j.rendition).capBytes ≤ s.egress.room)
    (free : s.pool.free = recon :: rest) :
    exec .engineDispatch s = .next (s.beginReturn.startJob i j
      (dispatchRecord (s.renditionSpec j.channel j.rendition) ctx j src e recon)
      { s.pool.mark recon .recon with free := rest }) := by
  rw [exec_engineDispatch_of_selected running idle selected hj hsrc hctx, if_neg fits.not_gt,
    SlotPool.take, free]
  rfl

end Dispatch

/-- R78 and R79: what the start of a job writes. -/
theorem State.startJob_eq {s : State} {j : Job} {ctx : RenditionContext}
    (hctx : (s.channel j.channel).contexts[j.rendition]? = some ctx) (i : Nat)
    (record : DispatchRecord) (pool : SlotPool) :
    s.startJob i j record pool = { s with
      pool := pool
      channels := s.channels.set j.channel { s.channel j.channel with
        contexts := (s.channel j.channel).contexts.set j.rendition
          { ctx with lastQI := some record.qi, inFlight := true } }
      jobs := s.jobs.set i { j with state := .running record false }
      encode := s.encode.set record.engine (.busy none none)
      egress := { s.egress with reservedBytes := s.egress.reservedBytes + record.cap } } := by
  rw [← Channel.modContext_eq hctx fun x =>
    { x with lastQI := some record.qi, inFlight := true }]
  rfl

theorem dispatchKey_eq (created : Bool) (ctx : RenditionContext) (dims : Nat × Nat) :
    dispatchKey created ctx dims =
      (created || !ctx.referenceValid || decide (ctx.dims ≠ some dims)) := by
  rw [dispatchKey, Bool.eq_iff_iff]
  simp only [Bool.or_eq_true, bne_iff_ne, decide_eq_true_eq]

/-- Settles O54: the job is the one that `selectJob_eq_some` selects, and its start writes what
`State.startJob_eq` says. -/
theorem engineDispatch : Obligations.EngineDispatch := by
  intro s eligible
  refine ⟨fun e i j r src ctx running idle first hi best hr hsrc hctx => ?_, fun h => ?_⟩
  · intro c spec cap room dims key qi
    have selected : selectJob s.jobs = some i := selectJob_eq_some hi best
    have engine := State.idleEncodeEngine_eq_some idle first
    obtain ⟨hj, -⟩ := hi
    have hctx' : (s.channel j.channel).contexts[j.rendition]? = some ctx := hr ▸ hctx
    have hspec : s.renditionSpec j.channel j.rendition = spec := hr ▸ s.renditionSpec_eq _ r
    refine ⟨fun small => ?_, fun recon rest fits free => ?_⟩
    · exact exec_engineDispatch_of_noRoom running engine selected hj hsrc hctx' (hspec ▸ small)
    · have hkey : dispatchKey j.keyRequired ctx dims = key := dispatchKey_eq _ _ _
      have record : dispatchRecord spec ctx j src e recon =
          { engine := e, qi := qi, cap := cap, recon := recon, width := dims.1, height := dims.2,
            key := key } := by
        rw [dispatchRecord, hkey]; rfl
      rw [exec_engineDispatch_of_room running engine selected hj hsrc hctx' (hspec ▸ fits) free,
        State.startJob_eq (by rwa [s.beginReturn_channel]), hspec, record, s.beginReturn_channel,
        s.beginReturn_channels, s.beginReturn_jobs, s.beginReturn_encode, s.beginReturn_egress, hr]
      rfl
  · exact exec_engineDispatch_of_none
      (h.imp_right (Or.imp State.idleEncodeEngine_eq_none selectJob_eq_none))

/-! ### The job that a skip completion takes (R80) -/

section EligibleOf
variable {ch : ChannelId} {r : Nat}

/-- R76: the oldest job of a rendition is its eligible one when all are QUEUED. -/
theorem eligibleOf_eq_some {older younger : List Job} {j : Job} (hc : j.channel = ch)
    (hr : j.rendition = r) (hq : j.state = .queued)
    (ho : ∀ x ∈ older, ¬ (x.channel = ch ∧ x.rendition = r))
    (hy : ∀ x ∈ younger, x.channel = ch → x.rendition = r → x.state = .queued) :
    eligibleOf (older ++ j :: younger) ch r = some older.length := by
  subst hc hr
  have hj : (older ++ j :: younger)[older.length]? = some j := by simp
  have among_older {h : Nat} (lt : h < older.length) {x : Job}
      (hx : (older ++ j :: younger)[h]? = some x) : x ∈ older := by
    rw [List.getElem?_append_left lt] at hx
    exact List.mem_of_getElem? hx
  have eligible : eligibleAt (older ++ j :: younger) older.length = true := by
    refine (eligibleAt_iff hj).2 ⟨hq, fun h x lt hx hxc hxr =>
      (ho x (among_older lt hx) ⟨hxc, hxr⟩).elim, fun x hx hxc hxr => ?_⟩
    rcases List.mem_append.1 hx with hx | hx
    · exact (ho x hx ⟨hxc, hxr⟩).elim
    · rcases List.mem_cons.1 hx with rfl | hx
      · exact hq
      · exact hy x hx hxc hxr
  rw [eligibleOf, List.find?_range_eq_some]
  refine ⟨by simp [eligible], by simp, fun h lt => ?_⟩
  cases hx : (older ++ j :: younger)[h]? with
  | none => simp
  | some x =>
    have other := ho x (among_older lt hx)
    simp only [Bool.not_eq_true', Bool.and_eq_false_iff, beq_eq_false_iff_ne]
    exact .inr (not_and_or.1 other)

/-- R76: a rendition without a job, or with a RUNNING one, has no eligible job. -/
theorem eligibleOf_eq_none {jobs : List Job}
    (h : (∀ x ∈ jobs, ¬ (x.channel = ch ∧ x.rendition = r))
      ∨ ∃ x ∈ jobs, x.channel = ch ∧ x.rendition = r ∧ x.state ≠ .queued) :
    eligibleOf jobs ch r = none := by
  rw [eligibleOf, List.find?_range_eq_none]
  intro i hi
  have hk := List.getElem?_eq_getElem hi
  simp only [hk, Bool.not_eq_true', Bool.and_eq_false_imp, beq_iff_eq]
  intro eligible hc
  obtain ⟨-, -, idle⟩ := (eligibleAt_iff hk).1 eligible
  refine beq_eq_false_iff_ne.2 fun hr => ?_
  rcases h with absent | ⟨x, hx, hxc, hxr, started⟩
  · exact absent _ (List.getElem_mem hi) ⟨hc, hr⟩
  · exact started (idle x hx (hxc.trans hc.symm) (hxr.trans hr.symm))

end EligibleOf

/-! ### SKIP_COMPLETION (R71, R80) -/

section SkipCompletion
variable {s : State} {ch : ChannelId} {r : Fin 4}

theorem exec_skipCompletion_of_none
    (h : s.hold.part ≠ .running ∨ eligibleOf s.jobs ch r.val = none) :
    exec (.skipCompletion ch r) s = .next s.beginReturn := by
  simp only [exec, execSkipCompletion, State.beginReturn_hold, State.beginReturn_jobs]
  split
  · next i running found => simp [running, found] at h
  · rfl

theorem exec_skipCompletion_of_job {i : Nat} {j : Job} (h : eligibleOf s.jobs ch r.val = some i)
    (hj : s.jobs[i]? = some j) :
    exec (.skipCompletion ch r) s =
      if s.hold.part = .running ∧ j.skip = true
          ∧ 16 ≤ 268435456 - (s.egress.reservedBytes + s.egress.queuedBytes) then
        .next (s.beginReturn.completeSkip i j)
      else .next s.beginReturn := by
  by_cases running : s.hold.part = .running
  · have room : decide (Config.skipUnitBytes ≤ s.egress.room) = true ↔
        16 ≤ 268435456 - (s.egress.reservedBytes + s.egress.queuedBytes) := decide_eq_true_iff
    simp only [exec, execSkipCompletion, State.beginReturn_jobs, State.beginReturn_hold,
      State.beginReturn_egress, h, hj, running, Bool.and_eq_true, room, true_and]
  · rw [exec_skipCompletion_of_none (.inl running), if_neg fun may => running may.1]

end SkipCompletion

/-- R48: what a completion writes into the segment table. -/
theorem Channel.completeInSegment_eq (c : Channel) (number : Nat) (r : Fin 4) (size : Nat) :
    c.completeInSegment number r.val size = { c with
      segments := c.segments.map (fun e =>
        if e.number = number then
          { e with
            outstanding := e.outstanding - 1
            bytes := e.bytes.set r.val (min 18446744073709551615 (e.bytes[r.val] + size)) }
        else e) } := by
  have counted (e : SegmentEntry) : e.addBytes r.val size =
      { e with bytes := e.bytes.set r.val (min 18446744073709551615 (e.bytes[r.val] + size)) } :=
    dif_pos (by omega)
  simp only [completeInSegment, counted, beq_iff_eq]

@[simp] theorem Channel.updateFullness_segments (c : Channel) (x : RenditionSpec)
    (r delta size : Nat) : (c.updateFullness x r delta size).segments = c.segments := by
  obtain ⟨contexts, counters, h, -⟩ := c.updateFullness_spec x r delta size
  rw [h]

/-- R71: skip pending is cleared for a good picture before the fullness is updated. -/
theorem Channel.skipCompleted_eq {c : Channel} {r : Nat} {ctx : RenditionContext}
    (h : c.contexts[r]? = some ctx) (x : RenditionSpec) (delta : Nat) (good : Bool) :
    c.skipCompleted x r delta good =
      let cleared : Channel :=
        if good = true then
          { c with contexts := c.contexts.set r { ctx with skipPending := false } }
        else c
      let after := cleared.updateFullness x r delta 16
      { after with counters := after.counters.skipped } := by
  rw [skipCompleted, Channel.modContext_eq h]; rfl

/-- R80: what the completion of a skip job writes. -/
theorem State.completeSkip_eq (s : State) (i : Nat) (j : Job) :
    s.completeSkip i j = { s with
      channels := s.channels.set j.channel
        (((s.channel j.channel).skipCompleted (s.renditionSpec j.channel j.rendition) j.rendition
          j.delta j.source.isSome).completeInSegment j.segment j.rendition 16)
      egress := { s.egress with
        queue := s.egress.queue ++ [.skip (j.tag false)]
        queuedBytes := s.egress.queuedBytes + 16 }
      jobs := s.jobs.eraseIdx i } := rfl

/-- Settles O55: the job is the one that `eligibleOf_eq_some` finds. -/
theorem skipCompletion : Obligations.SkipCompletion := by
  intro s ch r
  refine ⟨fun older j younger ctx hjobs hc hr hq ho hy hctx => ?_, fun h =>
    exec_skipCompletion_of_none (.inr (eligibleOf_eq_none h))⟩
  subst hc
  intro c cleared after may
  have found : eligibleOf s.jobs j.channel r.val = some older.length := by
    rw [hjobs]; exact eligibleOf_eq_some rfl hr hq ho hy
  have hj : s.jobs[older.length]? = some j := by rw [hjobs]; simp
  rw [exec_skipCompletion_of_job found hj]
  refine ⟨fun h => ?_, fun h => if_neg h⟩
  have left : s.jobs.eraseIdx older.length = older ++ younger := by
    rw [hjobs, List.eraseIdx_append_of_length_le le_rfl, Nat.sub_self]; rfl
  have kept : after.segments = c.segments := by
    rw [Channel.updateFullness_segments]; simp only [cleared]; split <;> rfl
  have skipped : c.skipCompleted s.profiles[c.profile].renditions[r] r.val j.delta
      j.source.isSome = { after with counters := after.counters.skipped } :=
    Channel.skipCompleted_eq hctx _ _ _
  rw [if_pos h, State.completeSkip_eq, s.beginReturn_channel, s.beginReturn_renditionSpec,
    s.beginReturn_channels, s.beginReturn_egress, s.beginReturn_jobs, left, Job.tag, hr,
    s.renditionSpec_eq, skipped, Channel.completeInSegment_eq, kept]
  rfl

/-! ### The job that runs on an engine (R81) -/

theorem runningOn_spec {jobs : List Job} {e : EncodeEngineId} {i : Nat} {j : Job}
    {record : DispatchRecord} {abandoned : Bool}
    (h : runningOn jobs e = some (i, j, record, abandoned)) :
    jobs[i]? = some j ∧ j.state = .running record abandoned ∧ record.engine = e := by
  obtain ⟨x, hx, found⟩ := List.mem_filterMap.1 (List.mem_of_mem_head? h)
  split at found
  · next running =>
    split at found
    · next named =>
      cases found
      exact ⟨List.mem_zipIdx_iff_getElem?.1 hx, running, beq_iff_eq.1 named⟩
    · exact nomatch found
  · exact nomatch found

section RunningOn
variable {jobs : List Job} {i : Nat} {j : Job} {record : DispatchRecord} {abandoned : Bool}
  (hj : jobs[i]? = some j) (hs : j.state = .running record abandoned)
include hj hs

theorem runningOn_ne_none : runningOn jobs record.engine ≠ none := by
  intro none
  rw [runningOn, List.head?_eq_none_iff, List.filterMap_eq_nil_iff] at none
  simpa [hs] using none (j, i) (List.mem_zipIdx_iff_getElem?.2 hj)

/-- R81: the one job whose dispatch record names the engine. -/
theorem runningOn_eq_some
    (only : ∀ (k : Nat) (x : Job) (d : DispatchRecord) (b : Bool), jobs[k]? = some x →
      x.state = .running d b → d.engine = record.engine → k = i) :
    runningOn jobs record.engine = some (i, j, record, abandoned) := by
  obtain ⟨⟨k, x, d, b⟩, found⟩ := Option.ne_none_iff_exists'.1 (runningOn_ne_none hj hs)
  obtain ⟨hx, running, named⟩ := runningOn_spec found
  cases only k x d b hx running named
  cases hj.symm.trans hx
  cases hs.symm.trans running
  exact found

end RunningOn

/-! ### ENCODE_COMPLETION (R67 to R69, R83 to R85) -/

theorem reportPossible_iff (record : DispatchRecord) (sourceRead referenceRead : Option ReadOutcome)
    (rep : CompletionReport) :
    reportPossible record sourceRead referenceRead rep = true ↔
      16 ≤ rep.size ∧ rep.size ≤ record.cap
        ∧ (rep.sourceDamaged = true ↔ sourceRead = some .uncorrectable)
        ∧ (rep.referenceDamaged = true ↔ referenceRead = some .uncorrectable)
        ∧ (rep.sourceDamaged = true → rep.size = 16 ∧ rep.key = false ∧ rep.capped = false)
        ∧ (rep.sourceDamaged = false → rep.key = (record.key || rep.referenceDamaged)) := by
  have as_read (b : Bool) (o : Option ReadOutcome) :
      (b == (o == some .uncorrectable)) = true ↔ (b = true ↔ o = some .uncorrectable) := by
    rw [beq_iff_eq, Bool.eq_iff_iff, beq_iff_eq]
  have unit : (if rep.sourceDamaged then rep.size == 16 && !rep.key && !rep.capped
        else rep.key == (record.key || rep.referenceDamaged)) = true ↔
      (rep.sourceDamaged = true → rep.size = 16 ∧ rep.key = false ∧ rep.capped = false)
        ∧ (rep.sourceDamaged = false → rep.key = (record.key || rep.referenceDamaged)) := by
    cases rep.sourceDamaged <;> simp [and_assoc]
  rw [reportPossible, Bool.and_eq_true, unit]
  simp only [Bool.and_eq_true, decide_eq_true_eq, as_read, and_assoc]

theorem Channel.isLive_iff (c : Channel) :
    c.isLive = true ↔ c.state = .running ∨ c.state = .draining := by
  simp only [isLive, Bool.or_eq_true, beq_iff_eq]

theorem exec_encodeCompletion_of_idle {s : State} {e : EncodeEngineId} (idle : s.encode[e] = .idle)
    (rep : CompletionReport) : exec (.encodeCompletion e rep) s = .next s.beginReturn := by
  simp only [exec, execEncodeCompletion, State.beginReturn_encode, idle]

/-- R83: what is decided on a completion. -/
theorem exec_encodeCompletion_of_running {s : State} {e : EncodeEngineId}
    {sourceRead referenceRead : Option ReadOutcome} {i : Nat} {j : Job} {record : DispatchRecord}
    {abandoned : Bool} (busy : s.encode[e] = .busy sourceRead referenceRead)
    (found : runningOn s.jobs e = some (i, j, record, abandoned)) (rep : CompletionReport) :
    exec (.encodeCompletion e rep) s =
      if reportPossible record sourceRead referenceRead rep = true then
        if ((s.channel j.channel).state = .running ∨ (s.channel j.channel).state = .draining)
            ∧ abandoned = false then
          .next (s.beginReturn.completeJob e i j record rep).settleHold
        else .next (s.beginReturn.abandonJob e i j record rep).settleHold
      else .next s.beginReturn := by
  simp only [exec, execEncodeCompletion, State.beginReturn_encode, State.beginReturn_jobs,
    State.beginReturn_channel, busy, found, Bool.and_eq_true, Bool.not_eq_true',
    Channel.isLive_iff]

/-! #### The channel's record -/

/-- R84 steps 1 and 2. -/
theorem Channel.engineCompleted_eq {c : Channel} {spec : RenditionSpec} {j : Job}
    {rep : CompletionReport} {x : RenditionContext}
    (hx : (c.updateFullness spec j.rendition j.delta rep.size).contexts[j.rendition]? = some x)
    (record : DispatchRecord) :
    c.engineCompleted spec j record rep =
      let full := c.updateFullness spec j.rendition j.delta rep.size
      { full with
        contexts := full.contexts.set j.rendition
          (if rep.sourceDamaged = true then x else x.replaceReference record)
        counters := { full.counters with
          cappedPictures := if rep.capped = true then
              min 4294967295 (full.counters.cappedPictures + 1)
            else full.counters.cappedPictures } } := by
  rw [engineCompleted]
  generalize c.updateFullness spec j.rendition j.delta rep.size = full at hx
  have capped : (if rep.capped then { full with counters := full.counters.capped } else full) =
      { full with counters := { full.counters with
          cappedPictures := if rep.capped = true then
              min 4294967295 (full.counters.cappedPictures + 1)
            else full.counters.cappedPictures } } := by
    split <;> rfl
  dsimp only
  rw [capped]
  split
  · obtain ⟨inside, rfl⟩ := List.getElem?_eq_some_iff.1 hx
    rw [List.set_getElem_self]
  · exact Channel.modContext_eq (by exact hx) _

/-- R84 steps 5 and 6. -/
theorem Channel.landed_completeInSegment {c : Channel} {r : Fin 4} {x : RenditionContext}
    (hx : c.contexts[r.val]? = some x) (number size : Nat) :
    (c.completeInSegment number r.val size).landed r.val = { c with
      contexts := c.contexts.set r.val { x with inFlight := false }
      segments := c.segments.map (fun y =>
        if y.number = number then
          { y with
            outstanding := y.outstanding - 1
            bytes := y.bytes.set r.val (min 18446744073709551615 (y.bytes[r.val] + size)) }
        else y) } := by
  rw [Channel.completeInSegment_eq]
  exact Channel.modContext_eq (by exact hx) _

/-- R84 steps 1, 2, 5 and 6: the record after a normal completion. -/
theorem Channel.landed_engineCompleted {c : Channel} {j : Job} {r : Fin 4} {ctx : RenditionContext}
    (hr : j.rendition = r.val) (hctx : c.contexts[r.val]? = some ctx) (spec : RenditionSpec)
    (record : DispatchRecord) (rep : CompletionReport) :
    ((c.engineCompleted spec j record rep).completeInSegment j.segment j.rendition rep.size).landed
        j.rendition =
      let full := c.updateFullness spec r.val j.delta rep.size
      let x := (full.contexts[r.val]?).getD ctx
      { full with
        contexts := full.contexts.set r.val
          (if rep.sourceDamaged = true then { x with inFlight := false }
            else { x.replaceReference record with inFlight := false })
        counters := { full.counters with
          cappedPictures := if rep.capped = true then
              min 4294967295 (full.counters.cappedPictures + 1)
            else full.counters.cappedPictures }
        segments := c.segments.map (fun y =>
          if y.number = j.segment then
            { y with
              outstanding := y.outstanding - 1
              bytes := y.bytes.set r.val
                (min 18446744073709551615 (y.bytes[r.val] + rep.size)) }
          else y) } := by
  obtain ⟨x, hx⟩ :
      ∃ x, (c.updateFullness spec r.val j.delta rep.size).contexts[r.val]? = some x := by
    rw [Channel.updateFullness_eq hctx]
    exact ⟨_, List.getElem?_set_self (List.getElem?_eq_some_iff.1 hctx).1⟩
  have completed := Channel.engineCompleted_eq (j := j) (rep := rep) (hr ▸ hx) record
  have segments := c.updateFullness_segments spec r.val j.delta rep.size
  rw [hr] at completed ⊢
  rw [completed]
  generalize c.updateFullness spec r.val j.delta rep.size = full at hx segments ⊢
  have written := List.getElem?_set_self (List.getElem?_eq_some_iff.1 hx).1
    (a := if rep.sourceDamaged = true then x else x.replaceReference record)
  refine (Channel.landed_completeInSegment (c := { full with contexts := _, counters := _ })
    written j.segment rep.size).trans ?_
  simp only [List.set_set, segments, hx, Option.getD_some]
  cases rep.sourceDamaged <;> rfl

/-! #### The pool and the unit -/

theorem SlotPool.dropJobSource_of_source {j : Job} {src : SourcePicture} (h : j.source = some src)
    (p : SlotPool) : p.dropJobSource j = p.dropSource src.slot := by
  rw [dropJobSource, h]

/-- R67 and R81: what the coded unit of a job with a source picture holds. -/
theorem SlotPool.codedContent_of_source {j : Job} {src : SourcePicture} (h : j.source = some src)
    (p : SlotPool) (reference : SlotId) (rep : CompletionReport) (serial : Nat) :
    p.codedContent j reference rep serial =
      if rep.sourceDamaged = true then .skipPicture
      else .engine serial p.slots[src.slot].picture
        (if rep.key = true then none else some p.slots[reference].picture) := by
  rw [codedContent, h]
  cases rep.sourceDamaged <;> rfl

/-! #### The whole state -/

section Completion
variable {s : State} {j : Job} {ctx : RenditionContext} {src : SourcePicture}
  (hctx : (s.channel j.channel).contexts[j.rendition]? = some ctx) (hsrc : j.source = some src)
  (e : EncodeEngineId) (i : Nat) (record : DispatchRecord) (rep : CompletionReport)
include hctx hsrc

/-- R84: what a normal completion writes, before a hold may be decided. -/
theorem State.completeJob_eq :
    s.completeJob e i j record rep = { s with
      channels := s.channels.set j.channel
        ((((s.channel j.channel).engineCompleted (s.renditionSpec j.channel j.rendition) j record
          rep).completeInSegment j.segment j.rendition rep.size).landed j.rendition)
      pool := ((s.pool.drawRecon record rep s.freeSerial).swapReference ctx.reference record
        rep.sourceDamaged).dropSource src.slot
      egress := { s.egress with
        reservedBytes := s.egress.reservedBytes - record.cap
        queue := s.egress.queue ++ [.coded (j.tag rep.key) rep.size
          (s.pool.codedContent j ctx.reference rep s.freeSerial)]
        queuedBytes := s.egress.queuedBytes + rep.size }
      jobs := s.jobs.eraseIdx i
      encode := s.encode.set e .idle
      freeSerial := s.freeSerial + 1 } := by
  rw [completeJob, hctx, ← SlotPool.dropJobSource_of_source hsrc]
  rfl

/-- R85: what an abandoned completion writes, before a hold may be decided. -/
theorem State.abandonJob_eq :
    s.abandonJob e i j record rep = { s with
      channels := s.channels.set j.channel { s.channel j.channel with
        contexts := (s.channel j.channel).contexts.set j.rendition { ctx with inFlight := false } }
      pool := ((s.pool.drawRecon record rep s.freeSerial).release record.recon).dropSource src.slot
      egress := { s.egress with reservedBytes := s.egress.reservedBytes - record.cap }
      jobs := s.jobs.eraseIdx i
      encode := s.encode.set e .idle
      freeSerial := s.freeSerial + 1 } := by
  rw [← Channel.modContext_eq hctx fun x => { x with inFlight := false },
    ← SlotPool.dropJobSource_of_source hsrc]
  rfl

end Completion

/-- Settles O57: the engine's job is the one that `runningOn_eq_some` finds, and the report decides
between `State.completeJob_eq` and `State.abandonJob_eq`. -/
theorem encodeCompletions : Obligations.EncodeCompletions := by
  intro s e
  refine ⟨exec_encodeCompletion_of_idle, ?_⟩
  intro i j record abandoned sourceRead referenceRead r ctx src busy hj hs named only hr hctx hsrc c
    u rep possible normal dropped drawn
  subst named
  have completion := exec_encodeCompletion_of_running busy (runningOn_eq_some hj hs only) rep
  have isPossible : reportPossible record sourceRead referenceRead rep = true ↔ possible :=
    reportPossible_iff ..
  have hctx' : (u.channel j.channel).contexts[j.rendition]? = some ctx := by
    rw [hr, s.beginReturn_channel]; exact hctx
  refine ⟨fun h => completion.trans (if_neg (mt isPossible.1 h)), fun h live => ?_,
    fun h ended => ?_⟩
  · intro full x tag content
    have hspec : s.renditionSpec j.channel j.rendition = s.profiles[c.profile].renditions[r] := by
      rw [hr]; exact s.renditionSpec_eq _ r
    rw [completion, if_pos (isPossible.2 h), if_pos live, State.completeJob_eq hctx' hsrc,
      s.beginReturn_channel, s.beginReturn_renditionSpec, hspec,
      Channel.landed_engineCompleted hr hctx, s.beginReturn_channels, s.beginReturn_pool,
      SlotPool.codedContent_of_source hsrc, Job.tag, hr, s.beginReturn_egress, s.beginReturn_jobs,
      s.beginReturn_encode, s.beginReturn_freeSerial]
    rfl
  · rw [completion, if_pos (isPossible.2 h), if_neg ended, State.abandonJob_eq hctx' hsrc,
      s.beginReturn_channel, s.beginReturn_channels, s.beginReturn_egress, s.beginReturn_jobs,
      s.beginReturn_encode, s.beginReturn_pool, s.beginReturn_freeSerial, hr]
    rfl

end Sys2Proof.Machine

/-! SUPPORT. The slot pool as a ledger (chapter 6): the free list, the slots that are held and the
SOURCE slots that jobs read; what each operation on the pool does to them; and the ledger of the
whole part, which section 6.2 describes. -/

namespace Sys2Proof.Machine

-- One after another: elaborated side by side, these many case splits exceed the memory limit.
set_option Elab.async false

/-! ### One slot's change (R89, R91) -/

theorem SlotPool.mark_slot (p : SlotPool) (i j : SlotId) (st : SlotState) :
    (p.mark i st).slots[j] = if j = i then { p.slots[j] with state := st } else p.slots[j] := by
  simp only [mark, getElem_put]
  split
  · next h => rw [h]
  · rfl

/-- R91: what taking a slot that stands at the head of the free list yields. -/
theorem SlotPool.take_of_cons {p : SlotPool} {i : SlotId} {rest : List SlotId}
    (h : p.free = i :: rest) (st : SlotState) :
    p.take st = some (i, { p.mark i st with free := rest }) := by
  rw [take, h]

theorem SlotPool.take_of_nil {p : SlotPool} (h : p.free = []) (st : SlotState) :
    p.take st = none := by
  rw [take, h]

/-- Settles O13. -/
theorem freeListIsFirstInFirstOut : Obligations.FreeListIsFirstInFirstOut := by
  refine ⟨fun p i j => ⟨rfl, rfl, p.mark_slot i j .free⟩, fun p st h => p.take_of_nil h st,
    fun p st i rest h => ⟨_, p.take_of_cons h st, rfl, rfl, fun j => p.mark_slot i j st⟩⟩

theorem SlotPool.mark_state_self (p : SlotPool) (i : SlotId) (st : SlotState) :
    (p.mark i st).slots[i].state = st := (p.mark_state i i st).trans (if_pos rfl)

theorem SlotPool.mark_state_of_ne {i j : SlotId} (h : j ≠ i) (p : SlotPool) (st : SlotState) :
    (p.mark i st).slots[j].state = p.slots[j].state := (p.mark_state i j st).trans (if_neg h)

/-! ### The ledger (R89, R96 and section 6.2) -/

/-- Section 6.2: a slot in this state has a holder. -/
def SlotState.isHeld : SlotState → Bool
  | .free => false
  | .source _ => false
  | .reserved | .filling | .decodeWait | .decoding | .holding | .reference | .recon => true

/-- The pool's law at one slot, for slots held in their holders' states and for the reads of SOURCE
slots that engine jobs have yet to come back from. -/
structure SlotPool.LawAt (p : SlotPool) (held : Multiset (SlotId × SlotState))
    (reads : Multiset SlotId) (i : SlotId) : Prop where
  mem_free : i ∈ p.free ↔ p.slots[i].state = .free
  mem_held : ∀ st : SlotState, (i, st) ∈ held ↔ p.slots[i].state = st ∧ st.isHeld = true
  counted : ∀ n : Nat, p.slots[i].state = .source n ↔ n = reads.count i ∧ 0 < n

/-- The pool's law: the law at every slot, and none twice in the free list or among those held. -/
structure SlotPool.Law (p : SlotPool) (held : Multiset (SlotId × SlotState))
    (reads : Multiset SlotId) : Prop where
  free_nodup : p.free.Nodup
  held_nodup : held.Nodup
  at_slot : ∀ i : SlotId, p.LawAt held reads i

namespace SlotPool
variable {p q : SlotPool} {held held' : Multiset (SlotId × SlotState)}
  {reads reads' : Multiset SlotId} {i : SlotId} {st st' : SlotState} {n : Nat}

/-! #### The law at one slot -/

theorem LawAt.of_free (state : p.slots[i].state = .free) (free : i ∈ p.free)
    (not_held : ∀ x, (i, x) ∉ held) (unread : reads.count i = 0) : p.LawAt held reads i where
  mem_free := iff_of_true free state
  mem_held x := by
    rw [state]
    refine iff_of_false (not_held x) ?_
    rintro ⟨rfl, h⟩
    exact nomatch h
  counted n := by
    rw [state, unread]
    exact iff_of_false nofun (by omega)

theorem LawAt.of_held (state : p.slots[i].state = st) (isHeld : st.isHeld = true)
    (not_free : i ∉ p.free) (by_one : ∀ x, (i, x) ∈ held ↔ x = st) (unread : reads.count i = 0) :
    p.LawAt held reads i where
  mem_free := by
    rw [state]
    refine iff_of_false not_free ?_
    rintro rfl
    exact nomatch isHeld
  mem_held x := by
    rw [state, by_one]
    exact ⟨fun h => ⟨h.symm, h ▸ isHeld⟩, fun h => h.1.symm⟩
  counted n := by
    rw [state, unread]
    refine iff_of_false ?_ (by omega)
    rintro rfl
    exact nomatch isHeld

theorem LawAt.of_source (state : p.slots[i].state = .source n) (pos : 0 < n)
    (not_free : i ∉ p.free) (not_held : ∀ x, (i, x) ∉ held) (readers : reads.count i = n) :
    p.LawAt held reads i where
  mem_free := by
    rw [state]
    exact iff_of_false not_free nofun
  mem_held x := by
    rw [state]
    refine iff_of_false (not_held x) ?_
    rintro ⟨rfl, h⟩
    exact nomatch h
  counted m := by
    rw [state, readers, SlotState.source.injEq]
    exact ⟨fun h => ⟨h.symm, h ▸ pos⟩, fun h => h.1.symm⟩

/-- The law at a slot that the two pools and what is held and read of them have alike. -/
theorem LawAt.congr (law : p.LawAt held reads i) (state : q.slots[i].state = p.slots[i].state)
    (free : i ∈ q.free ↔ i ∈ p.free) (mem : ∀ x, (i, x) ∈ held' ↔ (i, x) ∈ held)
    (count : reads'.count i = reads.count i) : q.LawAt held' reads' i where
  mem_free := by rw [state, free]; exact law.mem_free
  mem_held x := by rw [state, mem]; exact law.mem_held x
  counted n := by rw [state, count]; exact law.counted n

/-- A FREE slot is neither held nor read. -/
theorem Law.of_mem_free (law : p.Law held reads) (h : i ∈ p.free) :
    (∀ x, (i, x) ∉ held) ∧ reads.count i = 0 := by
  have state := (law.at_slot i).mem_free.1 h
  refine ⟨fun x hx => ?_, Nat.eq_zero_of_not_pos fun pos => ?_⟩
  · obtain ⟨same, isHeld⟩ := ((law.at_slot i).mem_held x).1 hx
    rw [← same, state] at isHeld
    exact nomatch isHeld
  · exact nomatch state.symm.trans (((law.at_slot i).counted _).2 ⟨rfl, pos⟩)

/-- A held slot is in its holder's state, not FREE, not read, and has no other holder. -/
theorem Law.of_held (law : p.Law ((i, st) ::ₘ held) reads) :
    p.slots[i].state = st ∧ st.isHeld = true ∧ i ∉ p.free ∧ (∀ x, (i, x) ∉ held)
      ∧ reads.count i = 0 := by
  obtain ⟨state, isHeld⟩ := ((law.at_slot i).mem_held st).1 (Multiset.mem_cons_self _ _)
  refine ⟨state, isHeld, fun h => ?_, fun x hx => ?_, Nat.eq_zero_of_not_pos fun pos => ?_⟩
  · exact (law.of_mem_free h).1 st (Multiset.mem_cons_self _ _)
  · obtain ⟨same, -⟩ := ((law.at_slot i).mem_held x).1 (Multiset.mem_cons_of_mem hx)
    exact (Multiset.nodup_cons.1 law.held_nodup).1 (state.symm.trans same ▸ hx)
  · rw [← state, ((law.at_slot i).counted _).2 ⟨rfl, pos⟩] at isHeld
    exact nomatch isHeld

/-- A SOURCE slot's count is the number of its reads, and it is neither FREE nor held. -/
theorem Law.of_read (law : p.Law held (i ::ₘ reads)) :
    p.slots[i].state = .source (reads.count i + 1) ∧ i ∉ p.free ∧ ∀ x, (i, x) ∉ held := by
  have state : p.slots[i].state = .source (reads.count i + 1) :=
    ((law.at_slot i).counted _).2 ⟨by simp, by omega⟩
  refine ⟨state, fun h => ?_, fun x hx => ?_⟩
  · exact nomatch state.symm.trans ((law.at_slot i).mem_free.1 h)
  · obtain ⟨same, isHeld⟩ := ((law.at_slot i).mem_held x).1 hx
    rw [← same, state] at isHeld
    exact nomatch isHeld

/-! #### What the operations on the pool do to the law -/

/-- The law looks at the slots' states and the free list alone. -/
theorem Law.congr (law : p.Law held reads) (free : q.free = p.free)
    (state : ∀ j : SlotId, q.slots[j].state = p.slots[j].state) : q.Law held reads where
  free_nodup := free ▸ law.free_nodup
  held_nodup := law.held_nodup
  at_slot j := (law.at_slot j).congr (state j) (by rw [free]) (fun _ => .rfl) rfl

theorem Law.of_eq (law : p.Law held reads) (h : held = held') (r : reads = reads') :
    p.Law held' reads' := h ▸ r ▸ law

/-- R91: a held slot is freed. -/
theorem Law.release (law : p.Law ((i, st) ::ₘ held) reads) : (p.release i).Law held reads := by
  obtain ⟨-, -, not_free, not_held, unread⟩ := law.of_held
  refine ⟨?_, (Multiset.nodup_cons.1 law.held_nodup).2, fun j => ?_⟩
  · exact List.nodup_append'.2 ⟨law.free_nodup, List.nodup_singleton i, by simpa using not_free⟩
  by_cases h : j = i
  · subst h
    exact .of_free (p.mark_state_self _ _) (by simp) not_held unread
  · exact (law.at_slot j).congr (p.mark_state_of_ne h _) (by simp [h]) (by simp [h]) rfl

/-- A held slot passes into another state in which it is held. -/
theorem Law.mark (law : p.Law ((i, st) ::ₘ held) reads) (isHeld : st'.isHeld = true) :
    (p.mark i st').Law ((i, st') ::ₘ held) reads := by
  obtain ⟨-, -, not_free, not_held, unread⟩ := law.of_held
  refine ⟨law.free_nodup, ?_, fun j => ?_⟩
  · exact Multiset.nodup_cons.2 ⟨not_held st', (Multiset.nodup_cons.1 law.held_nodup).2⟩
  by_cases h : j = i
  · subst h
    exact .of_held (p.mark_state_self _ _) isHeld not_free (by simp [not_held]) unread
  · exact (law.at_slot j).congr (p.mark_state_of_ne h _) .rfl (by simp [h]) rfl

/-- R47 and R96: a held slot becomes a SOURCE slot that `n` engine jobs are to read. -/
theorem Law.source (law : p.Law ((i, st) ::ₘ held) reads) (pos : 0 < n) :
    (p.mark i (.source n)).Law held (Multiset.replicate n i + reads) := by
  obtain ⟨-, -, not_free, not_held, unread⟩ := law.of_held
  refine ⟨law.free_nodup, (Multiset.nodup_cons.1 law.held_nodup).2, fun j => ?_⟩
  by_cases h : j = i
  · subst h
    exact .of_source (p.mark_state_self _ _) pos not_free not_held (by simp [unread])
  · exact (law.at_slot j).congr (p.mark_state_of_ne h _) .rfl (by simp [h])
      (by simp [Multiset.count_replicate, Ne.symm h])

/-- R96: a read of a SOURCE slot comes back. -/
theorem Law.dropSource (law : p.Law held (i ::ₘ reads)) : (p.dropSource i).Law held reads := by
  obtain ⟨state, not_free, not_held⟩ := law.of_read
  rw [SlotPool.dropSource, state]
  dsimp only
  split
  · next last =>
    have unread : reads.count i = 0 := by omega
    refine ⟨?_, law.held_nodup, fun j => ?_⟩
    · exact List.nodup_append'.2 ⟨law.free_nodup, List.nodup_singleton i, by simpa using not_free⟩
    by_cases h : j = i
    · subst h
      exact .of_free (p.mark_state_self _ _) (by simp) not_held unread
    · exact (law.at_slot j).congr (p.mark_state_of_ne h _) (by simp [h]) (by simp)
        (by simp [h])
  · next more =>
    refine ⟨law.free_nodup, law.held_nodup, fun j => ?_⟩
    by_cases h : j = i
    · subst h
      exact .of_source (n := reads.count j) (p.mark_state_self _ _) (by omega) not_free not_held rfl
    · exact (law.at_slot j).congr (p.mark_state_of_ne h _) .rfl (by simp) (by simp [h])

/-- R91: the slots at the head of the free list are taken into a state in which they are held. -/
theorem Law.take {taken rest : List SlotId} (law : p.Law held reads) (isHeld : st.isHeld = true)
    (free : p.free = taken ++ rest) (free' : q.free = rest)
    (state : ∀ j : SlotId, q.slots[j].state = if j ∈ taken then st else p.slots[j].state) :
    q.Law (taken.map (fun j => (j, st)) + held) reads := by
  obtain ⟨taken_nodup, rest_nodup, apart⟩ := List.nodup_append'.1 (free ▸ law.free_nodup)
  have was_free {j : SlotId} (h : j ∈ taken) := law.of_mem_free (i := j) (by simp [free, h])
  refine ⟨free' ▸ rest_nodup, ?_, fun j => ?_⟩
  · refine Multiset.nodup_add.2 ⟨?_, law.held_nodup, Multiset.disjoint_left.2 ?_⟩
    · exact Multiset.coe_nodup.2 (taken_nodup.map fun a b h => congrArg Prod.fst h)
    · intro x hx hx'
      obtain ⟨j, hj, rfl⟩ := List.mem_map.1 (Multiset.mem_coe.1 hx)
      exact (was_free hj).1 st hx'
  by_cases h : j ∈ taken
  · exact .of_held (by rw [state, if_pos h]) isHeld (free' ▸ apart h)
      (by simp [h, (was_free h).1, eq_comm]) (was_free h).2
  · exact (law.at_slot j).congr (by rw [state, if_neg h]) (by simp [free, free', h])
      (by simp [h]) rfl

/-- R91: held slots are freed, one after another. -/
theorem Law.releaseAll {slots : List (SlotId × SlotState)} (law : p.Law (slots + held) reads) :
    (p.releaseAll (slots.map (fun x => x.1))).Law held reads := by
  induction slots generalizing p with
  | nil => exact law.of_eq (zero_add _) rfl
  | cons x l ih => exact ih (Law.release (st := x.2) (law.of_eq (Multiset.cons_add x l held) rfl))

/-- R96: reads of SOURCE slots come back, one after another. -/
theorem Law.dropAll {slots : List SlotId} (law : p.Law held (slots + reads)) :
    (slots.foldl SlotPool.dropSource p).Law held reads := by
  induction slots generalizing p with
  | nil => exact law.of_eq rfl (zero_add _)
  | cons i l ih => exact ih (Law.dropSource (law.of_eq rfl (Multiset.cons_add i l reads)))

end SlotPool

/-! ### The slots of the part (section 6.2) -/

/-- R96: the slot that an engine job reads as its source. -/
def Job.reads (j : Job) : Option SlotId :=
  if j.skip then none else j.source.map (fun src => src.slot)

/-- What the entries of the decode queue and the decode engines hold. -/
def DecodeUnit.holdings (d : DecodeUnit) : Multiset (SlotId × SlotState) :=
  ↑(d.queue.map (fun x => (x.slot, SlotState.decodeWait)))
    + ∑ e : DecodeEngineId, ↑d.engines[e].holds.toList

/-- R93: the RESERVED slots. -/
def SlotPool.outstanding (p : SlotPool) : Multiset (SlotId × SlotState) :=
  ↑(p.reserved.map (fun i => (i, SlotState.reserved)))

/-- Section 6.2: what is held in the whole part. -/
def State.holdings (s : State) : Multiset (SlotId × SlotState) :=
  s.pool.outstanding + ∑ ch : ChannelId, ↑(s.channel ch).holds + s.decode.holdings
    + ↑(s.jobs.filterMap Job.holds)

/-- R96: the reads of SOURCE slots by the engine jobs that have not yet come back. -/
def State.reads (s : State) : Multiset SlotId :=
  ↑(s.jobs.filterMap Job.reads)

/-- R94 and R12: only a RUNNING channel has a partial picture, a CLOSED one has no references. -/
def Channel.RecordOk (c : Channel) : Prop :=
  (c.assembly ≠ none → c.state = .running) ∧ (c.state = .closed → c.contexts = [])

theorem sum_vector {α β : Type} {n : Nat} (v : Vector α n) (f : α → List β) :
    ∑ i : Fin n, (f v[i] : Multiset β) = ↑(v.toList.flatMap f) := by
  have elements : v.toList = (List.finRange n).map (fun i => v[i]) := by
    apply List.ext_getElem <;> simp
  rw [Fin.sum_univ_def, elements]
  induction List.finRange n with
  | nil => rfl
  | cons i l ih =>
    rw [List.map_cons, List.map_cons, List.sum_cons, List.flatMap_cons, ← Multiset.coe_add, ih]

theorem State.holdings_eq (s : State) : s.holdings = ↑s.holders := by
  have channels := sum_vector s.channels Channel.holds
  have engines := sum_vector s.decode.engines (fun e => e.holds.toList)
  unfold State.holdings SlotPool.outstanding DecodeUnit.holdings State.holders
  rw [engines, ← List.filterMap_eq_flatMap_toList]
  simp only [State.channel, channels, Multiset.coe_add, List.append_assoc]

theorem State.count_reads (s : State) (i : SlotId) : s.reads.count i = s.readers i := by
  rw [reads, readers, Multiset.coe_count, List.count, List.countP_filterMap,
    List.countP_eq_length_filter]
  congr 1
  refine List.filter_congr fun j _ => ?_
  unfold Job.reads
  cases j.skip <;> cases j.source <;> simp

theorem State.isHeld_of_mem_holders {s : State} {x : SlotId × SlotState} (h : x ∈ s.holders) :
    x.2.isHeld = true := by
  simp only [State.holders, List.mem_append, List.mem_map, List.mem_flatMap, List.mem_filterMap,
    Channel.holds] at h
  rcases h with (((⟨_, _, rfl⟩ | ⟨_, _, ⟨_, _, rfl⟩ | ⟨_, _, rfl⟩⟩) | ⟨_, _, rfl⟩) | ⟨e, _, he⟩)
    | ⟨j, _, hj⟩
  · rfl
  · rfl
  · rfl
  · rfl
  · cases e with
    | idle => exact nomatch he
    | decoding d a => cases he; rfl
    | holding pic =>
      obtain ⟨src, -, rfl⟩ := Option.map_eq_some_iff.1 he
      rfl
  · unfold Job.holds at hj
    split at hj
    · exact nomatch hj
    · cases hj; rfl

/-- The invariant of the slot pool, with slots that are held aside: taken out of the hands of one
holder and not yet put into those of another. R23 bounds what an OPEN takes. -/
structure State.StoreOk (s : State) (aside : Multiset (SlotId × SlotState)) : Prop where
  law : s.pool.Law (aside + s.holdings) s.reads
  jobs : ∀ j ∈ s.jobs, j.isRunning = true → j.skip = false
  records : ∀ ch, (s.channel ch).RecordOk
  counts : ∀ p : ProfileId, s.profiles[p].valid = true → s.profiles[p].count ≤ 4

theorem State.SlotsOk.storeOk {s : State} (ok : s.SlotsOk) (inRange : s.TablesInRange) :
    s.StoreOk 0 := by
  obtain ⟨free_nodup, mem_free, distinct, asHeld, covered, counted, jobs, records⟩ := ok
  have few (p : ProfileId) (valid : s.profiles[p].valid = true) : s.profiles[p].count ≤ 4 := by
    obtain ⟨-, profiles⟩ := inRange
    obtain ⟨-, four, -⟩ := profiles p valid
    exact four
  have law : s.pool.Law ↑s.holders s.reads := by
    refine ⟨free_nodup, Multiset.coe_nodup.2 (List.Nodup.of_map _ distinct), fun i =>
      ⟨mem_free i, fun st => ⟨fun h => ⟨asHeld _ h, State.isHeld_of_mem_holders h⟩, ?_⟩,
        fun n => by rw [s.count_reads]; exact counted i n⟩⟩
    rintro ⟨rfl, isHeld⟩
    rcases covered i with free | ⟨n, source⟩ | holder
    · rw [free] at isHeld; exact nomatch isHeld
    · rw [source] at isHeld; exact nomatch isHeld
    · exact holder
  exact ⟨law.of_eq (by rw [zero_add, s.holdings_eq]) rfl, jobs, records, few⟩

theorem State.StoreOk.slotsOk {s : State} (ok : s.StoreOk 0) : s.SlotsOk := by
  obtain ⟨⟨free_nodup, held_nodup, at_slot⟩, jobs, records, -⟩ := ok
  rw [zero_add, s.holdings_eq] at held_nodup at_slot
  have mem_held (x : SlotId × SlotState) : x ∈ s.holders ↔
      s.pool.slots[x.1].state = x.2 ∧ x.2.isHeld = true := (at_slot x.1).mem_held x.2
  refine ⟨free_nodup, fun i => (at_slot i).mem_free, ?_, fun x h => ((mem_held x).1 h).1,
    fun i => ?_, fun i n => ?_, jobs, records⟩
  · refine List.Nodup.map_on ?_ (Multiset.coe_nodup.1 held_nodup)
    rintro ⟨i, st⟩ hx ⟨_, st'⟩ hy rfl
    exact congrArg (Prod.mk i) (((mem_held _).1 hx).1.symm.trans ((mem_held _).1 hy).1)
  · cases state : s.pool.slots[i].state with
    | free => exact .inl rfl
    | source n => exact .inr (.inl ⟨n, rfl⟩)
    | reserved | filling | decodeWait | decoding | holding | reference | recon =>
      exact .inr (.inr ((mem_held _).2 ⟨state, rfl⟩))
  · rw [← s.count_reads]; exact (at_slot i).counted n

end Sys2Proof.Machine

/-! SUPPORT. What the operations of the part do to the frame store: slots pass from one holder to
another, the engine reserve of R92 is kept, and a filled hard fault record is frozen (R99). First
the rules for one holder rewritten, then the operations block by block. -/

namespace Sys2Proof.Machine

-- One after another: elaborated side by side, these many case splits exceed the memory limit.
set_option Elab.async false

/-! ### What a command may do to the frame store -/

/-- R99: a filled hard record freezes both records. -/
def FaultLog.KeepsRecords (l m : FaultLog) : Prop :=
  l.hard.isSome = true → m.hard = l.hard ∧ m.soft = l.soft

theorem FaultLog.keepsRecords_of_eq {l m : FaultLog} (h : m = l) : l.KeepsRecords m :=
  fun _ => h ▸ ⟨rfl, rfl⟩

theorem FaultLog.keepsRecords_logCorrectable (l : FaultLog) (r : FaultRecord) :
    l.KeepsRecords (l.logCorrectable r) := by
  intro filled
  obtain ⟨x, h⟩ := Option.isSome_iff_exists.1 filled
  simp [FaultLog.logCorrectable, h]

theorem FaultLog.keepsRecords_logUncorrectable (l : FaultLog) (r : FaultRecord) :
    l.KeepsRecords (l.logUncorrectable r) := by
  intro filled
  obtain ⟨x, h⟩ := Option.isSome_iff_exists.1 filled
  simp [FaultLog.logUncorrectable, h]

/-- Between the two states nothing of the frame store is lost: slots held aside in the first that
meet the pool's law with the rest do so with those held aside in the second, the engine reserve is
kept, and a filled hard record is frozen. -/
structure State.Moves (s : State) (aside : Multiset (SlotId × SlotState)) (t : State)
    (aside' : Multiset (SlotId × SlotState)) : Prop where
  store : s.StoreOk aside → t.StoreOk aside'
  reserve : s.EngineReserve → t.EngineReserve
  log : s.faults.KeepsRecords t.faults

/-- R79 and R92: the engine reserve is kept when neither the jobs on engines nor the engines change
and no slot is taken. -/
theorem State.engineReserve_of_le {s t : State} (engines : t.runningEngines = s.runningEngines)
    (encode : t.encode = s.encode) (free : s.pool.free.length ≤ t.pool.free.length)
    (ok : s.EngineReserve) : t.EngineReserve := by
  obtain ⟨distinct, busy, room⟩ := ok
  refine ⟨engines ▸ distinct, fun e he => ?_, by rw [engines]; omega⟩
  rw [encode]
  exact busy e (engines ▸ he)

/-- A rewrite of a channel record that holds what the record held. -/
structure Channel.KeepsSlots (c d : Channel) : Prop where
  holds : d.holds = c.holds
  record : c.RecordOk → d.RecordOk

namespace Channel.KeepsSlots
variable {c d e : Channel}

theorem trans (h : c.KeepsSlots d) (k : d.KeepsSlots e) : c.KeepsSlots e :=
  ⟨k.holds.trans h.holds, fun ok => k.record (h.record ok)⟩

/-- Each context goes on with the reference it had, and the rest of what counts is left. -/
theorem of_references (references : d.contexts.map (fun x => x.reference) =
      c.contexts.map (fun x => x.reference))
    (assembly : d.assembly = c.assembly := by rfl) (state : d.state = c.state := by rfl) :
    c.KeepsSlots d := by
  have pairs (l : List RenditionContext) : l.map (fun x => (x.reference, SlotState.reference)) =
      (l.map (fun x => x.reference)).map (fun i => (i, SlotState.reference)) := by simp
  refine ⟨?_, fun ⟨running, empty⟩ => ⟨?_, fun h => ?_⟩⟩
  · rw [Channel.holds, Channel.holds, assembly, pairs, references, ← pairs]
  · rw [assembly, state]; exact running
  · rw [state] at h
    rw [empty h] at references
    exact List.map_eq_nil_iff.1 references

theorem of_eq (contexts : d.contexts = c.contexts := by rfl)
    (assembly : d.assembly = c.assembly := by rfl) (state : d.state = c.state := by rfl) :
    c.KeepsSlots d := .of_references (by rw [contexts]) assembly state

end Channel.KeepsSlots

/-! #### What is held once one holder is rewritten -/

/-- A sum over a vector, with what one element adds to it apart. -/
theorem exists_sum_set {α β : Type} {n : Nat} (v : Vector α n) (i : Fin n) (f : α → List β) :
    ∃ rest : Multiset β, ∑ j : Fin n, (f v[j] : Multiset β) = ↑(f v[i]) + rest
      ∧ ∀ x, ∑ j : Fin n, (f (v.set i x)[j] : Multiset β) = ↑(f x) + rest := by
  refine ⟨∑ j ∈ Finset.univ.erase i, ↑(f v[j]), (Finset.add_sum_erase _ _ (Finset.mem_univ i)).symm,
    fun x => ?_⟩
  rw [← Finset.add_sum_erase _ _ (Finset.mem_univ i)]
  congr 1
  · simp
  · refine Finset.sum_congr rfl fun j hj => ?_
    have ne : ¬ i.val = j.val := fun h => (Finset.mem_erase.1 hj).1 (Fin.ext h.symm)
    simp [ne]

/-- What is held aside becomes an element of a list, its first or its last. -/
theorem cons_add_coe {α : Type} (x : α) (A : Multiset α) (l : List α) :
    x ::ₘ A + ↑l = A + ↑(x :: l) := by
  rw [← Multiset.cons_coe, Multiset.add_cons, Multiset.cons_add]

theorem cons_add_coe_concat {α : Type} (x : α) (A : Multiset α) (l : List α) :
    x ::ₘ A + ↑l = A + ↑(l ++ [x]) := by
  rw [cons_add_coe, Multiset.coe_eq_coe.2 (List.perm_append_singleton x l)]

/-- What stands first in a list is held aside. -/
theorem balance_of_append {α : Type} {l l₁ l₂ : List α} (A : Multiset α) (h : l = l₁ ++ l₂) :
    A + ↑l = ↑l₁ + A + ↑l₂ := by
  rw [h, ← Multiset.coe_add, add_left_comm, add_assoc]

section Balance
variable {M : Type} [AddCommMonoid M] {a b x y : M} (h : a + x = b + y) {r : M}
include h

/-- What balances goes on to do so with more beside it. -/
theorem balance_beside : a + (x + r) = b + (y + r) := by
  rw [← add_assoc, h, add_assoc]

theorem balance_before : a + (r + x) = b + (r + y) := by
  rw [add_left_comm, h, add_left_comm]

end Balance

namespace State.Moves
variable {s t u : State} {A B C : Multiset (SlotId × SlotState)}

theorem refl : s.Moves A s A := ⟨id, id, fun _ => ⟨rfl, rfl⟩⟩

theorem trans (h : s.Moves A t B) (k : t.Moves B u C) : s.Moves A u C where
  store ok := k.store (h.store ok)
  reserve ok := k.reserve (h.reserve ok)
  log filled := by
    obtain ⟨hard, soft⟩ := h.log filled
    obtain ⟨hard', soft'⟩ := k.log (hard ▸ filled)
    exact ⟨hard'.trans hard, soft'.trans soft⟩

/-- The pool's law looks at the sum of what is held and what is held aside. -/
theorem of_balance (balance : s.StoreOk A → A + s.holdings = B + t.holdings)
    (records : (∀ ch, (s.channel ch).RecordOk) → ∀ ch, (t.channel ch).RecordOk)
    (free : t.pool.free = s.pool.free := by rfl)
    (state : ∀ j : SlotId, t.pool.slots[j].state = s.pool.slots[j].state := by exact fun _ => rfl)
    (jobs : t.jobs = s.jobs := by rfl) (encode : t.encode = s.encode := by rfl)
    (profiles : t.profiles = s.profiles := by rfl)
    (log : s.faults.KeepsRecords t.faults := by exact FaultLog.keepsRecords_of_eq rfl) :
    s.Moves A t B where
  store ok := {
    law := by
      have reads : s.reads = t.reads := by rw [State.reads, State.reads, jobs]
      exact (ok.law.of_eq (balance ok) reads).congr free state
    jobs := jobs ▸ ok.jobs
    records := records ok.records
    counts := profiles ▸ ok.counts }
  reserve := State.engineReserve_of_le (by rw [runningEngines, runningEngines, jobs]) encode
    (free ▸ le_rfl)
  log := log

/-- An update that writes nothing of what counts. -/
theorem of_eq (pool : t.pool = s.pool := by simp) (channels : t.channels = s.channels := by simp)
    (decode : t.decode = s.decode := by simp) (jobs : t.jobs = s.jobs := by simp)
    (encode : t.encode = s.encode := by simp) (profiles : t.profiles = s.profiles := by simp)
    (faults : t.faults = s.faults := by simp) : s.Moves A t A := by
  have channel : t.channel = s.channel := funext (State.channel_congr channels)
  refine of_balance (fun _ => ?_) ?_ (by rw [pool]) (by rw [pool]; exact fun _ => rfl) jobs encode
    profiles (FaultLog.keepsRecords_of_eq faults)
  · rw [State.holdings, State.holdings, pool, channel, decode, jobs]
  · rw [channel]; exact id

/-- An update that can be seen to write nothing of what counts. -/
theorem of_same (pool : t.pool = s.pool := by rfl) (channels : t.channels = s.channels := by rfl)
    (decode : t.decode = s.decode := by rfl) (jobs : t.jobs = s.jobs := by rfl)
    (encode : t.encode = s.encode := by rfl) (profiles : t.profiles = s.profiles := by rfl)
    (faults : t.faults = s.faults := by rfl) : s.Moves A t A :=
  of_eq pool channels decode jobs encode profiles faults

/-- A channel's record rewritten: what it held and holds no more is held aside. -/
theorem of_set {ch : ChannelId} {c : Channel} (channels : t.channels = s.channels.set ch c)
    (balance : s.StoreOk A → A + ↑(s.channel ch).holds = B + ↑c.holds)
    (record : (s.channel ch).RecordOk → c.RecordOk)
    (pool : t.pool = s.pool := by rfl) (decode : t.decode = s.decode := by rfl)
    (jobs : t.jobs = s.jobs := by rfl) (encode : t.encode = s.encode := by rfl)
    (profiles : t.profiles = s.profiles := by rfl) (faults : t.faults = s.faults := by rfl) :
    s.Moves A t B := by
  obtain ⟨rest, old, new⟩ := exists_sum_set s.channels ch Channel.holds
  refine of_balance (fun ok => ?_) (fun ok x => ?_) (by rw [pool])
    (by rw [pool]; exact fun _ => rfl) jobs encode profiles (FaultLog.keepsRecords_of_eq faults)
  · have before : ∑ x, ((s.channel x).holds : Multiset (SlotId × SlotState)) =
        ↑(s.channel ch).holds + rest := old
    have after : ∑ x, ((t.channel x).holds : Multiset (SlotId × SlotState)) = ↑c.holds + rest := by
      simp only [State.channel, channels]; exact new c
    rw [State.holdings, State.holdings, before, after, pool, decode, jobs]
    exact balance_beside (balance_beside (balance_before (balance_beside (balance ok))))
  · have written := State.channel_congr (t := s.modChannel ch fun _ => c) channels x
    rw [written, State.channel_modChannel]
    split
    · exact record (ok ch)
    · exact ok x

/-- The decode queue rewritten. -/
theorem of_queue (engines : t.decode.engines = s.decode.engines)
    (balance : A + ↑(s.decode.queue.map (fun x => (x.slot, SlotState.decodeWait))) =
      B + ↑(t.decode.queue.map (fun x => (x.slot, SlotState.decodeWait))))
    (pool : t.pool = s.pool := by rfl) (channels : t.channels = s.channels := by rfl)
    (jobs : t.jobs = s.jobs := by rfl) (encode : t.encode = s.encode := by rfl)
    (profiles : t.profiles = s.profiles := by rfl) (faults : t.faults = s.faults := by rfl) :
    s.Moves A t B := by
  have channel : t.channel = s.channel := funext (State.channel_congr channels)
  refine of_balance (fun _ => ?_) (by rw [channel]; exact id) (by rw [pool])
    (by rw [pool]; exact fun _ => rfl) jobs encode profiles (FaultLog.keepsRecords_of_eq faults)
  rw [State.holdings, State.holdings, DecodeUnit.holdings, DecodeUnit.holdings, pool, channel,
    engines, jobs]
  exact balance_beside (balance_before (balance_beside balance))

/-- A decode engine rewritten. -/
theorem of_engine {e : DecodeEngineId} {x : DecodeEngine}
    (engines : t.decode.engines = s.decode.engines.set e x)
    (balance : A + ↑s.decode.engines[e].holds.toList = B + ↑x.holds.toList)
    (queue : t.decode.queue = s.decode.queue := by rfl)
    (pool : t.pool = s.pool := by rfl) (channels : t.channels = s.channels := by rfl)
    (jobs : t.jobs = s.jobs := by rfl) (encode : t.encode = s.encode := by rfl)
    (profiles : t.profiles = s.profiles := by rfl) (faults : t.faults = s.faults := by rfl) :
    s.Moves A t B := by
  obtain ⟨rest, old, new⟩ :=
    exists_sum_set s.decode.engines e (fun x => x.holds.toList)
  have channel : t.channel = s.channel := funext (State.channel_congr channels)
  refine of_balance (fun _ => ?_) (by rw [channel]; exact id) (by rw [pool])
    (by rw [pool]; exact fun _ => rfl) jobs encode profiles (FaultLog.keepsRecords_of_eq faults)
  rw [State.holdings, State.holdings, DecodeUnit.holdings, DecodeUnit.holdings, pool, channel,
    queue, engines, jobs, old, new x]
  exact balance_beside (balance_before (balance_before (balance_beside balance)))

/-- The pool rewritten: no slot is taken, or 8 stay FREE (R92). -/
theorem of_pool {q : SlotPool}
    (law : ∀ held, s.pool.Law (A + (s.pool.outstanding + held)) s.reads →
      q.Law (B + (q.outstanding + held)) s.reads)
    (free : s.pool.free.length ≤ q.free.length ∨ 8 ≤ q.free.length) :
    s.Moves A { s with pool := q } B where
  store ok := {
    law := by
      have law := law _ (ok.law.of_eq (by rw [State.holdings, add_assoc, add_assoc]) rfl)
      exact law.of_eq (by rw [State.holdings, add_assoc, add_assoc]; rfl) rfl
    jobs := ok.jobs
    records := ok.records
    counts := ok.counts }
  reserve ok := by
    rcases free with more | eight
    · exact State.engineReserve_of_le (s := s) (t := { s with pool := q }) rfl rfl more ok
    · exact ⟨ok.1, ok.2.1, eight.trans (Nat.le_add_right _ _)⟩
  log := FaultLog.keepsRecords_of_eq rfl

/-- The slots rewritten, none of them taken. -/
theorem of_slots {q : SlotPool}
    (law : ∀ held, s.pool.Law (A + held) s.reads → q.Law (B + held) s.reads)
    (free : s.pool.free.length ≤ q.free.length)
    (reserved : q.reserved = s.pool.reserved := by rfl) : s.Moves A { s with pool := q } B := by
  have outstanding : q.outstanding = s.pool.outstanding := by
    rw [SlotPool.outstanding, SlotPool.outstanding, reserved]
  exact of_pool (fun held h => by rw [outstanding]; exact law _ h) (.inl free)

theorem releaseSlot {i : SlotId} {st : SlotState} : s.Moves ((i, st) ::ₘ A) (s.releaseSlot i) A :=
  of_slots (fun _ law => (law.of_eq (Multiset.cons_add _ _ _) rfl).release) (by simp)

theorem releaseAll {slots : List (SlotId × SlotState)} :
    s.Moves (↑slots + A) { s with pool := s.pool.releaseAll (slots.map (fun x => x.1)) } A :=
  of_slots (fun _ law => (law.of_eq (add_assoc _ _ _) rfl).releaseAll) (by simp) (by simp)

theorem markSlot {i : SlotId} {st st' : SlotState} (isHeld : st'.isHeld = true) :
    s.Moves ((i, st) ::ₘ A) (s.markSlot i st') ((i, st') ::ₘ A) :=
  of_slots (fun _ law => ((law.of_eq (Multiset.cons_add _ _ _) rfl).mark isHeld).of_eq
    (Multiset.cons_add _ _ _).symm rfl) le_rfl

/-- A rewrite of a channel record that holds what the record held. -/
theorem of_record {ch : ChannelId} {c : Channel} (channels : t.channels = s.channels.set ch c)
    (h : (s.channel ch).KeepsSlots c) (pool : t.pool = s.pool := by rfl)
    (decode : t.decode = s.decode := by rfl) (jobs : t.jobs = s.jobs := by rfl)
    (encode : t.encode = s.encode := by rfl) (profiles : t.profiles = s.profiles := by rfl)
    (faults : t.faults = s.faults := by rfl) : s.Moves A t A :=
  of_set channels (fun _ => by rw [h.holds]) h.record pool decode jobs encode profiles faults

theorem modChannel {ch : ChannelId} {f : Channel → Channel}
    (h : (s.channel ch).KeepsSlots (f (s.channel ch))) : s.Moves A (s.modChannel ch f) A :=
  of_record rfl h

theorem foldl {α : Type} {f : State → α → State} (h : ∀ (t : State) (a : α), t.Moves A (f t a) A)
    (l : List α) : ∀ s : State, s.Moves A (l.foldl f s) A := by
  induction l with
  | nil => exact fun s => refl
  | cons a l ih => exact fun s => (h s a).trans (ih (f s a))

theorem raise {e : Event} (h : s.Moves A t B) : s.Moves A (t.raise e) B := h.trans .of_eq

theorem raiseAll {es : List Event} (h : s.Moves A t B) : s.Moves A (t.raiseAll es) B :=
  h.trans .of_eq

theorem startStall (h : s.Moves A t B) : s.Moves A t.startStall B := h.trans .of_eq

theorem settleHold (h : s.Moves A t B) : s.Moves A t.settleHold B := h.trans .of_eq

theorem decideHold (h : s.Moves A t B) : s.Moves A t.decideHold.1 B := by
  rcases t.decideHold_spec with same | ⟨-, -, held⟩
  · rw [same]; exact h
  · rw [held]; exact h.trans .of_eq

end State.Moves

/-! #### The operations on partial pictures and the decode queue -/

theorem Channel.holds_of_none {c : Channel} (h : c.assembly = none) :
    c.holds = c.contexts.map (fun x => (x.reference, .reference)) := by
  rw [Channel.holds, h]; rfl

theorem Channel.holds_of_some {c : Channel} {part : PartialPicture} (h : c.assembly = some part) :
    c.holds = (part.slot, .filling) :: c.contexts.map (fun x => (x.reference, .reference)) := by
  rw [Channel.holds, h]; rfl

namespace State
variable (s : State) {A : Multiset (SlotId × SlotState)}

/-- R94: a record is rewritten and its partial picture, if any, discarded. -/
theorem moves_withoutPartial {ch : ChannelId} {f : Channel → Channel}
    (assembly : (f (s.channel ch)).assembly = (s.channel ch).assembly)
    (contexts : (f (s.channel ch)).contexts = (s.channel ch).contexts)
    (state : (f (s.channel ch)).state = .closed → (s.channel ch).state = .closed) :
    s.Moves A ((s.modChannel ch f).discardPartial ch) A := by
  have rewritten : s.Moves A (s.modChannel ch fun c => (f c).withoutPartial)
      (↑((s.channel ch).assembly.toList.map (fun part => (part.slot, SlotState.filling))) + A) := by
    refine .of_set rfl (fun _ => ?_) fun ok => ⟨fun h => absurd rfl h, fun h => ?_⟩
    · have apart : (s.channel ch).holds =
          (s.channel ch).assembly.toList.map (fun part => (part.slot, .filling))
            ++ (f (s.channel ch)).withoutPartial.holds := by
        rw [Channel.holds_of_none (c := (f (s.channel ch)).withoutPartial) rfl, Channel.holds,
          ← contexts]
        rfl
      exact balance_of_append A apart
    · exact contexts.trans (ok.2 (state h))
  have slots : ((s.channel ch).assembly.toList.map (fun part =>
      (part.slot, SlotState.filling))).map (fun x => x.1) = (s.channel ch).partialSlots :=
    List.map_map
  rw [discardPartial_modChannel assembly, ← slots]
  exact rewritten.trans .releaseAll

/-- R94. -/
theorem moves_discardPartial (ch : ChannelId) : s.Moves A (s.discardPartial ch) A := by
  have kept : s.modChannel ch (fun c => c) = s := modChannel_of_fixed rfl
  have discarded := s.moves_withoutPartial (A := A) (ch := ch) (f := fun c => c) rfl rfl id
  rwa [kept] at discarded

theorem channel_discardPartial (ch : ChannelId) :
    ((s.discardPartial ch).channel ch).assembly = none
      ∧ ((s.discardPartial ch).channel ch).state = (s.channel ch).state := by
  rw [discardPartial_eq, channel_modChannel, if_pos rfl]
  exact ⟨rfl, rfl⟩

/-- R142: a FILLING slot becomes a channel's partial picture. -/
theorem moves_setPartial {ch : ChannelId} {slot : SlotId} {part : PartialPicture}
    (none : (s.channel ch).assembly = none) (running : (s.channel ch).state = .running)
    (same : part.slot = slot := by rfl) :
    s.Moves ((slot, .filling) ::ₘ A) (s.setPartial ch (some part)) A := by
  have held : Channel.holds { s.channel ch with assembly := some part } =
      (slot, .filling) :: (s.channel ch).holds := by
    rw [Channel.holds_of_none none, ← same]; exact Channel.holds_of_some rfl
  have balance := cons_add_coe (slot, SlotState.filling) A (s.channel ch).holds
  rw [← held] at balance
  exact .of_set rfl (fun _ => balance) fun ok => ⟨fun _ => running, ok.2⟩

/-- R143: a partial picture goes on in its slot. -/
theorem moves_setPartial_of_some {ch : ChannelId} {old part : PartialPicture}
    (h : (s.channel ch).assembly = some old) (same : part.slot = old.slot := by rfl) :
    s.Moves A (s.setPartial ch (some part)) A := by
  have held : Channel.holds { s.channel ch with assembly := some part } = (s.channel ch).holds := by
    rw [Channel.holds_of_some h, ← same]; exact Channel.holds_of_some rfl
  exact .modChannel ⟨held, fun ok => ⟨fun _ => ok.1 (by rw [h]; exact nofun), ok.2⟩⟩

/-- R143: a channel's partial picture is taken out. -/
theorem moves_takePartial {ch : ChannelId} {part : PartialPicture}
    (h : (s.channel ch).assembly = some part) :
    s.Moves A (s.setPartial ch none) ((part.slot, .filling) ::ₘ A) := by
  have held : (s.channel ch).holds =
      (part.slot, .filling) :: Channel.holds { s.channel ch with assembly := none } := by
    rw [Channel.holds_of_some h]; rfl
  have balance := cons_add_coe (part.slot, SlotState.filling) A
    (Channel.holds { s.channel ch with assembly := none })
  rw [← held] at balance
  exact .of_set rfl (fun _ => balance.symm) fun ok => ⟨fun h => absurd rfl h, ok.2⟩

theorem moves_fill {i : SlotId} {st : SlotState} (bytes : List Byte) :
    s.Moves ((i, st) ::ₘ A) { s with pool := s.pool.fill i bytes } ((i, .filling) ::ₘ A) := by
  refine .of_slots (fun _ law => ?_) le_rfl
  have marked := (law.of_eq (Multiset.cons_add _ _ _) rfl).mark (st' := .filling) rfl
  refine (marked.of_eq (Multiset.cons_add _ _ _).symm rfl).congr rfl fun j => ?_
  simp only [SlotPool.fill, SlotPool.mark, SlotPool.getElem_put]
  split <;> rfl

theorem moves_append (i : SlotId) (bytes : List Byte) :
    s.Moves A { s with pool := s.pool.append i bytes } A := by
  refine .of_balance (fun _ => rfl) id rfl fun j => ?_
  simp only [SlotPool.append, SlotPool.getElem_put]
  split
  · next h => rw [h]
  · rfl

/-- R5 and R6: a completed picture's slot is freed, or waits in the decode queue. -/
theorem moves_acceptPicture {ch : ChannelId} {slot : SlotId} {st : SlotState} (time : Nat)
    (flags : BitVec 16) :
    s.Moves ((slot, st) ::ₘ A) (s.acceptPicture ch slot time flags) A := by
  by_cases late : ((s.channel ch).adoptBase time).pictureLate time = true
  · rw [acceptPicture_of_late late]
    have recorded : s.Moves ((slot, st) ::ₘ A) (s.modChannel ch fun c => { c with
        base := some (c.base.getD time), counters := c.counters.late }) ((slot, st) ::ₘ A) :=
      .modChannel .of_eq
    exact recorded.trans .releaseSlot
  · rw [acceptPicture_of_inTime late]
    have recorded : s.Moves ((slot, st) ::ₘ A) (s.modChannel ch fun c => { c with
        base := some (c.base.getD time), lastPicture := some time }) ((slot, st) ::ₘ A) :=
      .modChannel .of_eq
    refine (recorded.trans (.markSlot (st' := .decodeWait) rfl)).trans (.of_queue rfl ?_)
    rw [List.map_append]
    exact cons_add_coe_concat _ _ _

end State

/-! #### The loss of the ingest link and media frames -/

theorem Channel.isRunning_iff (c : Channel) : c.isRunning = true ↔ c.state = .running := beq_iff_eq

namespace State
variable (s : State) {A : Multiset (SlotId × SlotState)}

/-- R145 and R147: every RESERVED slot is freed. -/
theorem moves_voidReserved : s.Moves A { s with pool := s.pool.voidReserved } A := by
  refine .of_pool (fun held law => ?_) (.inl (by simp [SlotPool.voidReserved]))
  have slots : (s.pool.reserved.map (fun i => (i, SlotState.reserved))).map (fun x => x.1) =
      s.pool.reserved := List.map_map.trans (List.map_id _)
  have freed := (law.of_eq (add_left_comm _ _ _) rfl).releaseAll
  rw [slots] at freed
  exact (freed.of_eq (congrArg (A + ·) (zero_add held).symm) rfl).congr rfl fun _ => rfl

theorem moves_ingestLoss : s.Moves A s.ingestLoss A := by
  have discarded := Moves.foldl (A := A) (fun t ch => t.moves_discardPartial ch)
    (List.finRange 32) s
  unfold ingestLoss
  generalize (List.finRange 32).foldl discardPartial s = t at discarded ⊢
  exact discarded.trans (t.moves_voidReserved.trans .of_eq)

theorem moves_headerFailure : s.Moves A s.headerFailure A := by
  have lost := moves_ingestLoss (A := A) (s.countFrame FrameCounters.countHeader)
  unfold headerFailure resynchronise
  generalize (s.countFrame FrameCounters.countHeader).ingestLoss = t at lost ⊢
  exact Moves.trans .of_eq (lost.trans .of_eq)

theorem moves_stray : s.Moves A s.stray A := .of_same

theorem moves_count (ch : ChannelId) (f : ChannelCounters → ChannelCounters) :
    s.Moves A (s.count ch f) A := .modChannel .of_eq

theorem moves_clearDecode (ch : ChannelId) : s.Moves A (s.clearDecode ch) A := .modChannel .of_eq

/-- R52 to R55: what the markers write of a channel is its cut pending. -/
theorem moves_evaluateMarkers (u : MarkedUnit) : s.Moves A (s.evaluateMarkers u) A := by
  rw [evaluateMarkers_eq]
  exact .of_record rfl .of_eq

theorem moves_reportRead (o : ReadOutcome) (r : FaultRecord) : s.Moves A (s.reportRead o r) A := by
  have logged {l : FaultLog} (h : s.faults.KeepsRecords l) : s.Moves A { s with faults := l } A :=
    .of_balance (fun _ => rfl) id (log := h)
  cases o with
  | clean => exact .refl
  | correctable => exact logged (s.faults.keepsRecords_logCorrectable r)
  | uncorrectable =>
    have uncorrectable := logged (s.faults.keepsRecords_logUncorrectable r)
    unfold reportRead
    dsimp only
    split
    · exact uncorrectable.raise
    · exact uncorrectable

/-- R142: the slot of a start frame becomes a partial picture's or a queue entry's, or is freed. -/
theorem moves_startPicture (p : StartPosition) (f : MediaFrame) (slot : SlotId) :
    s.Moves ((slot, .reserved) ::ₘ A) (s.startPicture p f slot) A := by
  unfold startPicture
  split
  · next running =>
    obtain ⟨none, state⟩ := s.channel_discardPartial f.channel
    have discarded := s.moves_discardPartial (A := (slot, .reserved) ::ₘ A) f.channel
    generalize s.discardPartial f.channel = t at none state discarded ⊢
    have filled := discarded.trans (t.moves_fill f.payload.bytes)
    cases p with
    | first =>
      refine filled.trans (moves_setPartial (ch := f.channel) _ ?_ ?_)
      · exact none
      · exact state.trans ((Channel.isRunning_iff _).1 running)
    | only => exact filled.trans (moves_acceptPicture _ _ _)
  · exact Moves.releaseSlot.trans (moves_stray _)

theorem moves_startPictureFailed (f : MediaFrame) (slot : SlotId) :
    s.Moves ((slot, .reserved) ::ₘ A) (s.startPictureFailed f slot) A := by
  have counted : s.Moves ((slot, .reserved) ::ₘ A)
      ((s.releaseSlot slot).countFrame FrameCounters.countPayload) A :=
    Moves.releaseSlot.trans .of_eq
  unfold startPictureFailed
  dsimp only
  split
  · exact counted.trans ((moves_discardPartial _ _).trans (moves_count _ _ _))
  · exact counted

theorem moves_continuePicture (p : ContinuationPosition) (f : MediaFrame) :
    s.Moves A (s.continuePicture p f) A := by
  unfold continuePicture
  dsimp only
  split
  · next part _ assembly =>
    split
    · exact s.moves_discardPartial _
    · split
      · exact s.moves_discardPartial _
      · have appended := s.moves_append (A := A) part.slot f.payload.bytes
        cases p with
        | middle =>
          refine appended.trans (moves_setPartial_of_some (ch := f.channel) (old := part) _ ?_)
          exact assembly
        | last =>
          refine (appended.trans (moves_takePartial (ch := f.channel) (part := part) _ ?_)).trans
            (moves_acceptPicture _ _ _)
          exact assembly
  · exact s.moves_stray

theorem moves_continuationFailed (f : MediaFrame) : s.Moves A (s.continuationFailed f) A := by
  unfold continuationFailed
  dsimp only
  split
  · exact Moves.trans .of_eq (moves_discardPartial _ _)
  · exact .of_eq

theorem moves_acceptSmall (k : SmallKind) (f : MediaFrame) : s.Moves A (s.acceptSmall k f) A := by
  unfold acceptSmall
  dsimp only
  rw [Channel.adoptBase_eq]
  split
  · exact .of_record rfl .of_eq
  · cases k with
    | audio => exact .of_record rfl .of_eq
    | cue => exact .of_record rfl .of_eq

theorem moves_startSmall (k : SmallKind) (p : Position) (f : MediaFrame) :
    s.Moves A (s.startSmall k p f) A := by
  unfold startSmall
  split
  · exact s.moves_acceptSmall k f
  · exact s.moves_stray

theorem moves_smallFailed (p : Position) (f : MediaFrame) : s.Moves A (s.smallFailed p f) A := by
  unfold smallFailed
  dsimp only
  split
  · exact Moves.trans .of_eq (moves_count _ _ _)
  · exact .of_eq

/-- R92 and R138: a grant leaves 8 slots FREE. -/
theorem moves_reserveMany {n : Nat} (pos : n ≠ 0) (few : n ≤ s.pool.free.length - 8) :
    s.Moves A { s with pool := s.pool.reserveMany n } A := by
  obtain ⟨free, reserved, slots⟩ := SlotPool.reserveMany_spec n s.pool (by omega)
  refine .of_pool (fun held law => ?_) (.inr ?_)
  · refine (law.take (st := .reserved) rfl (List.take_append_drop n _).symm free fun j => ?_).of_eq
      ?_ rfl
    · rw [slots]; split <;> rfl
    · rw [SlotPool.outstanding, SlotPool.outstanding, reserved, List.map_append, ← Multiset.coe_add]
      abel
  · rw [free, List.length_drop]; omega

end State

/-! #### The decode engines (R107 to R111) -/

/-- The slot of a good picture, in the state it is held in. -/
def DecodedPicture.held (pic : DecodedPicture) (st : SlotState) : Multiset (SlotId × SlotState) :=
  ↑(pic.source.map (fun src => (src.slot, st))).toList

namespace State
variable (s : State) {A : Multiset (SlotId × SlotState)}

/-- R107: the entry that is started leaves the queue. -/
theorem moves_startDecode {engine : DecodeEngineId} {entry : DecodeEntry}
    (idle : s.decode.engines[engine] = .idle)
    (found : s.decode.queue.find? s.decodeReady = some entry) :
    s.Moves A (s.startDecode engine entry) A := by
  obtain ⟨ready, older, younger, parts, unready⟩ := List.find?_eq_some_iff_append.1 found
  have left : s.decode.queue.eraseP s.decodeReady = older ++ younger := by
    rw [parts, List.eraseP_append_right _ (by simpa using unready), List.eraseP_cons_of_pos ready]
  have dequeued : s.Moves A { s with decode := { s.decode with
      queue := s.decode.queue.eraseP s.decodeReady } } ((entry.slot, .decodeWait) ::ₘ A) := by
    refine .of_queue rfl ?_
    dsimp only
    rw [left, cons_add_coe,
      ← List.map_cons (f := fun x : DecodeEntry => (x.slot, SlotState.decodeWait)), parts]
    exact congrArg (A + ·) (Multiset.coe_eq_coe.2 (List.perm_middle.map _))
  have marked := dequeued.trans (.markSlot (st' := .decoding) rfl)
  have flagged := marked.trans (.modChannel (ch := entry.channel)
    (f := fun c => { c with decodeInFlight := true }) .of_eq)
  refine flagged.trans (.of_engine (e := engine) rfl ?_)
  show (entry.slot, SlotState.decoding) ::ₘ A + ↑s.decode.engines[engine].holds.toList = _
  rw [idle]
  exact cons_add_coe _ _ []

end State

/-! #### The segmenter's work on a picture (R37 to R47) -/

theorem Channel.keepsSlots_decideCut (c : Channel) (p : Profile) (good : Bool) (t : Nat) :
    c.KeepsSlots (c.decideCut p good t).1 := by
  unfold Channel.decideCut
  split
  · split <;> exact .of_eq
  · split
    · unfold Channel.laterCut
      split <;> exact .of_eq
    · exact .of_eq

theorem Channel.keepsSlots_modNewest (c : Channel) (f : SegmentEntry → SegmentEntry) :
    c.KeepsSlots (c.modNewest f) := by
  unfold Channel.modNewest
  split <;> exact .of_eq

theorem DecodedPicture.held_of_none {pic : DecodedPicture} (h : pic.source = none)
    (st : SlotState) : pic.held st = 0 := by
  rw [held, h]; rfl

theorem DecodedPicture.held_of_some {pic : DecodedPicture} {src : SourcePicture}
    (h : pic.source = some src) (st : SlotState) (A : Multiset (SlotId × SlotState)) :
    pic.held st + A = (src.slot, st) ::ₘ A := by
  rw [held, h]; exact Multiset.singleton_add _ _

/-- R45: the jobs of a picture are QUEUED and read its source slot. -/
theorem Channel.of_mem_makeJobs {c : Channel} {pic : DecodedPicture} {number v : Nat} {cut : Bool}
    {j : Job} (h : j ∈ c.makeJobs pic number cut v) :
    j.state = .queued ∧ j.source = pic.source := by
  obtain ⟨r, -, rfl⟩ := List.mem_map.1 h
  exact ⟨rfl, rfl⟩

/-- R96: QUEUED jobs hold no slot, and as many of them read the source slot as are engine jobs. -/
theorem filterMap_reads_of_source {jobs : List Job} {source : Option SourcePicture}
    (h : ∀ j ∈ jobs, j.source = source) : jobs.filterMap Job.reads =
      (source.map (fun src =>
        List.replicate (jobs.filter (fun j => !j.skip)).length src.slot)).getD [] := by
  induction jobs with
  | nil => cases source <;> rfl
  | cons j l ih =>
    have ih := ih fun x hx => h x (List.mem_cons_of_mem j hx)
    have source_eq := h j List.mem_cons_self
    cases skip : j.skip <;> cases source <;>
      simp_all [Job.reads, List.replicate_succ]

/-- R47: the source slot counts the engine jobs that are to read it, and is freed when there is
none. -/
theorem SlotPool.Law.setSource {p : SlotPool} {pic : DecodedPicture} {st : SlotState}
    {held : Multiset (SlotId × SlotState)} {reads : Multiset SlotId}
    (law : p.Law (pic.held st + held) reads) (n : Nat) :
    (p.setSource pic.source n).Law held
      (reads + ↑((pic.source.map (fun src => List.replicate n src.slot)).getD [])) := by
  cases source : pic.source with
  | none =>
    rw [DecodedPicture.held_of_none source, zero_add] at law
    exact law.of_eq rfl (add_zero reads).symm
  | some src =>
    rw [DecodedPicture.held_of_some source] at law
    by_cases zero : n = 0
    · subst zero
      exact law.release.of_eq rfl (add_zero reads).symm
    · rw [SlotPool.setSource, if_neg zero]
      exact (law.source (Nat.pos_of_ne_zero zero)).of_eq rfl (add_comm _ _)

namespace State
variable (s : State) {A : Multiset (SlotId × SlotState)}

/-- R45 to R47: jobs join the queue, and the source slot of their picture counts their reads. -/
theorem moves_addJobs {pic : DecodedPicture} {st : SlotState} {jobs : List Job}
    (made : ∀ j ∈ jobs, j.state = .queued ∧ j.source = pic.source) :
    s.Moves (pic.held st + A) { s with
      jobs := s.jobs ++ jobs
      pool := s.pool.setSource pic.source (jobs.filter (fun j => !j.skip)).length } A := by
  have reads := filterMap_reads_of_source fun j hj => (made j hj).2
  have no_slot : jobs.filterMap Job.holds = [] :=
    List.filterMap_eq_nil_iff.2 fun j hj => by rw [Job.holds, (made j hj).1]
  have no_engine : jobs.filterMap Job.engine? = [] :=
    List.filterMap_eq_nil_iff.2 fun j hj => by rw [Job.engine?, (made j hj).1]
  generalize (jobs.filter (fun j => !j.skip)).length = n at reads ⊢
  have pool : s.pool.free.length ≤ (s.pool.setSource pic.source n).free.length
      ∧ (s.pool.setSource pic.source n).reserved = s.pool.reserved := by
    unfold SlotPool.setSource
    split
    · exact ⟨le_rfl, rfl⟩
    · split <;> simp
  refine ⟨fun ok => ⟨?_, ?_, ok.records, ok.counts⟩, ?_, FaultLog.keepsRecords_of_eq rfl⟩
  · have holdings : State.holdings { s with
        jobs := s.jobs ++ jobs, pool := s.pool.setSource pic.source n } = s.holdings := by
      simp only [State.holdings, SlotPool.outstanding, pool.2, List.filterMap_append, no_slot,
        List.append_nil]
      rfl
    have joined : State.reads { s with
        jobs := s.jobs ++ jobs, pool := s.pool.setSource pic.source n } =
          s.reads + ↑(jobs.filterMap Job.reads) := by
      simp only [State.reads, List.filterMap_append, Multiset.coe_add]
    rw [holdings, joined, reads]
    exact (ok.law.of_eq (add_assoc _ _ _) rfl).setSource n
  · intro j hj running
    rcases List.mem_append.1 hj with hj | hj
    · exact ok.jobs j hj running
    · simp [Job.isRunning, Job.isQueued, (made j hj).1] at running
  · refine State.engineReserve_of_le ?_ rfl pool.1
    simp only [runningEngines, List.filterMap_append, no_engine, List.append_nil]

/-- R39 to R47, whatever the decode engines are about. -/
theorem moves_takePicture (d : DecodeUnit) (pic : DecodedPicture) (st : SlotState) :
    State.Moves { s with decode := d } (pic.held st + A)
      { s.takePicture pic with decode := d } A := by
  have marked : State.Moves { s with decode := d } (pic.held st + A)
      { s.markPicture pic with decode := d } (pic.held st + A) := by
    rw [markPicture, evaluateMarkers_eq, withMarks]
    refine Moves.trans (t := State.modChannel { s with decode := d } pic.channel fun c => { c with
      lastDelta := pic.delta
      pictureNumber := count32 (s.channel pic.channel).pictureNumber }) (.modChannel .of_eq) ?_
    exact .of_record rfl .of_eq
  rw [takePicture_eq]
  generalize s.markPicture pic = m at marked ⊢
  have decided := (m.channel pic.channel).keepsSlots_decideCut (s.profileOf pic.channel)
    pic.source.isSome pic.time
  generalize (m.channel pic.channel).decideCut _ _ _ = cut at decided ⊢
  have joined : State.Moves { m with decode := d } (pic.held st + A)
      (State.modChannel { m with decode := d } pic.channel
        fun _ => cut.1.join (s.profileOf pic.channel).count) (pic.held st + A) :=
    .modChannel (decided.trans (Channel.keepsSlots_modNewest _ _))
  exact marked.trans (joined.trans (moves_addJobs _ fun j => Channel.of_mem_makeJobs))

/-! #### The completion of a decode (R108 to R111) -/

theorem moves_drawDecoded (d : DecodeEntry) (good : Bool) :
    s.Moves A (s.drawDecoded d good) A := by
  unfold drawDecoded
  dsimp only
  split
  · exact .of_balance (fun _ => rfl) id rfl fun j => SlotPool.draw_state _ _ _ _
  · exact .refl

theorem moves_setDecodeEngine_idle {e : DecodeEngineId} :
    s.Moves A (s.setDecodeEngine e .idle) (↑s.decode.engines[e].holds.toList + A) :=
  .of_engine rfl (balance_of_append A (List.append_nil _).symm)

/-- R110: the picture stays with its engine. -/
theorem moves_holdPicture (e : DecodeEngineId) (pic : DecodedPicture) {st : SlotState} :
    (s.setDecodeEngine e .idle).Moves (pic.held st + A) (s.holdPicture e pic) A := by
  have engine (t : State) : (t.setDecodeEngine e .idle).Moves (pic.held .holding + A)
      { t.setDecodeEngine e (.holding pic) with decode := {
        (t.setDecodeEngine e (.holding pic)).decode with held := t.decode.held ++ [e] } } A := by
    refine .of_engine (e := e) (x := .holding pic) ?_ ?_
    · exact (Vector.set_set ..).symm
    · simp only [setDecodeEngine, Fin.getElem_fin, Vector.getElem_set_self, DecodeEngine.holds,
        DecodedPicture.held]
      rw [Option.toList_none, Multiset.coe_nil, add_zero, add_comm]
  unfold holdPicture
  cases source : pic.source with
  | none =>
    have kept : pic.held st = pic.held .holding := by
      rw [DecodedPicture.held_of_none source, DecodedPicture.held_of_none source]
    rw [kept]
    exact engine s
  | some src =>
    rw [DecodedPicture.held_of_some source]
    have marked : (s.setDecodeEngine e .idle).Moves ((src.slot, st) ::ₘ A)
        ((s.setDecodeEngine e .idle).markSlot src.slot .holding) ((src.slot, .holding) ::ₘ A) :=
      .markSlot rfl
    have kept := engine (s.markSlot src.slot .holding)
    rw [DecodedPicture.held_of_some source] at kept
    exact marked.trans kept

/-- R109 and R110: the picture in hand is dropped, taken or held. -/
theorem moves_handOver (e : DecodeEngineId) (pic : DecodedPicture) {st : SlotState} :
    (s.setDecodeEngine e .idle).Moves (pic.held st + A) (s.handOver e pic) A := by
  unfold handOver
  split
  · next dropped =>
    have none : pic.source = none := Option.isNone_iff_eq_none.1 (Bool.and_eq_true_iff.1 dropped).1
    rw [DecodedPicture.held_of_none none, zero_add]
    have recorded : (s.setDecodeEngine e .idle).Moves A
        ((s.setDecodeEngine e .idle).dropConcealed pic) A := .modChannel .of_eq
    exact recorded.trans (moves_clearDecode _ _)
  · split
    · have taken := s.moves_takePicture (A := A) (s.setDecodeEngine e .idle).decode pic st
      have idled : { s.takePicture pic with decode := (s.setDecodeEngine e .idle).decode } =
          (s.takePicture pic).setDecodeEngine e .idle := by
        rw [setDecodeEngine, setDecodeEngine, takePicture_decode]
      rw [idled] at taken
      exact taken.trans (moves_clearDecode ((s.takePicture pic).setDecodeEngine e .idle) _)
    · exact s.moves_holdPicture e pic

theorem moves_abandonDecode {e : DecodeEngineId} {d : DecodeEntry} {abandoned : Bool}
    (busy : s.decode.engines[e] = .decoding d abandoned) :
    s.Moves A (s.abandonDecode e d) A := by
  have idled := s.moves_setDecodeEngine_idle (A := A) (e := e)
  rw [busy] at idled
  exact idled.trans (Moves.releaseSlot.trans (moves_clearDecode _ _))

theorem moves_finishDecode {e : DecodeEngineId} {d : DecodeEntry} {abandoned : Bool}
    (busy : s.decode.engines[e] = .decoding d abandoned) (good : Bool) :
    s.Moves A (s.finishDecode e d good) A := by
  have idled := s.moves_setDecodeEngine_idle (A := A) (e := e)
  rw [busy] at idled
  unfold finishDecode
  cases good with
  | true => exact idled.trans (s.moves_handOver e (d.picture _ true) (st := .decoding))
  | false =>
    have concealed : s.Moves A ((s.conceal d).setDecodeEngine e .idle) A :=
      idled.trans (Moves.releaseSlot.trans (moves_count _ _ _))
    have handed := (s.conceal d).moves_handOver (A := A) e
      (d.picture s.pool.slots[d.slot].compressed false) (st := .decoding)
    rw [DecodedPicture.held_of_none rfl, zero_add] at handed
    exact concealed.trans handed

/-- A held picture leaves its engine. -/
theorem moves_idleHeld {e : DecodeEngineId} {pic : DecodedPicture}
    (holding : s.decode.engines[e] = .holding pic) (held : List DecodeEngineId) :
    s.Moves A { s with decode := { s.decode with
      engines := s.decode.engines.set e .idle, held := held } } (pic.held .holding + A) :=
  (s.moves_setDecodeEngine_idle (A := A) (e := e)).trans (holding ▸ .of_queue rfl rfl)

/-- R38: the oldest held picture is taken. -/
theorem moves_takeHeld {e : DecodeEngineId} {rest : List DecodeEngineId} {pic : DecodedPicture}
    (holding : s.decode.engines[e] = .holding pic) :
    s.Moves A { (s.takePicture pic).clearDecode pic.channel with
      decode := { (s.takePicture pic).decode with
        engines := (s.takePicture pic).decode.engines.set e .idle, held := rest } } A := by
  have taken := s.moves_takePicture (A := A)
    { s.decode with engines := s.decode.engines.set e .idle, held := rest } pic .holding
  rw [takePicture_decode]
  exact ((s.moves_idleHeld holding rest).trans taken).trans
    (moves_clearDecode { s.takePicture pic with decode := _ } _)

end State

/-! #### What a job's completion writes of its channel -/

theorem RenditionContext.applyFullness_reference (x : RenditionContext) (f : Int) (size : Nat) :
    (x.applyFullness f size).reference = x.reference := by
  unfold RenditionContext.applyFullness
  split
  · rfl
  · split <;> rfl

namespace Channel
variable (c : Channel)

theorem keepsSlots_modContext {r : Nat} {f : RenditionContext → RenditionContext}
    (h : ∀ x, (f x).reference = x.reference) : c.KeepsSlots (c.modContext r f) := by
  refine .of_references (List.ext_getElem? fun i => ?_)
  simp only [modContext, List.getElem?_map, List.getElem?_modify]
  split <;> cases c.contexts[i]? <;> simp [h]

/-- A CLOSED channel has no context to rewrite. -/
theorem RecordOk.modContext {c : Channel} (ok : c.RecordOk) (r : Nat)
    (f : RenditionContext → RenditionContext) : (c.modContext r f).RecordOk :=
  ⟨ok.1, fun closed => by rw [Channel.modContext, ok.2 closed, List.modify_nil]⟩

theorem keepsSlots_updateFullness (x : RenditionSpec) (r delta size : Nat) :
    c.KeepsSlots (c.updateFullness x r delta size) := by
  unfold updateFullness
  split
  · exact .of_eq
  · exact (c.keepsSlots_modContext fun y => y.applyFullness_reference _ _).trans .of_eq

theorem keepsSlots_skipCompleted (x : RenditionSpec) (r delta : Nat) (good : Bool) :
    c.KeepsSlots (c.skipCompleted x r delta good) := by
  unfold skipCompleted
  dsimp only
  refine .trans ?_ ((keepsSlots_updateFullness _ x r delta _).trans .of_eq)
  split
  · exact c.keepsSlots_modContext fun _ => rfl
  · exact .of_eq

theorem keepsSlots_landed (r : Nat) : c.KeepsSlots (c.landed r) :=
  c.keepsSlots_modContext fun _ => rfl

/-- R84 steps 5 and 6. -/
theorem keepsSlots_landed_completeInSegment (number r size : Nat) :
    c.KeepsSlots ((c.completeInSegment number r size).landed r) :=
  .trans .of_eq (keepsSlots_landed _ r)

theorem recordOk_engineCompleted {c : Channel} (ok : c.RecordOk) (spec : RenditionSpec) (j : Job)
    (record : DispatchRecord) (rep : CompletionReport) :
    (c.engineCompleted spec j record rep).RecordOk := by
  have full := (c.keepsSlots_updateFullness spec j.rendition j.delta rep.size).record ok
  unfold engineCompleted
  generalize c.updateFullness spec j.rendition j.delta rep.size = d at full ⊢
  have counted : (if rep.capped then { d with counters := d.counters.capped } else d).RecordOk := by
    split <;> exact full
  dsimp only
  split
  · exact counted
  · exact counted.modContext _ _

/-- A job of a rendition without a context leaves the channel's slots alone. -/
theorem engineCompleted_holds_of_none {j : Job} (h : c.contexts[j.rendition]? = none)
    (spec : RenditionSpec) (record : DispatchRecord) (rep : CompletionReport) :
    (c.engineCompleted spec j record rep).holds = c.holds := by
  have outside := List.getElem?_eq_none_iff.1 h
  have full : c.updateFullness spec j.rendition j.delta rep.size = c := by rw [updateFullness, h]
  have unwritten (d : Channel) (contexts : d.contexts = c.contexts)
      (assembly : d.assembly = c.assembly) :
      (d.modContext j.rendition fun x => x.replaceReference record).holds = c.holds := by
    rw [holds, modContext, contexts, assembly, List.modify_eq_self outside]; rfl
  rw [engineCompleted, full]
  split
  · split <;> rfl
  · split <;> exact unwritten _ rfl rfl

variable {c} {r : Nat} {ctx : RenditionContext}

/-- What a channel holds, with the reference of one rendition apart. -/
theorem exists_holds_set (h : c.contexts[r]? = some ctx) :
    ∃ rest : Multiset (SlotId × SlotState), (c.holds : Multiset (SlotId × SlotState)) =
        (ctx.reference, .reference) ::ₘ rest
      ∧ ∀ (d : Channel) (x : RenditionContext), d.contexts = c.contexts.set r x →
        d.assembly = c.assembly →
          (d.holds : Multiset (SlotId × SlotState)) = (x.reference, .reference) ::ₘ rest := by
  obtain ⟨inside, rfl⟩ := List.getElem?_eq_some_iff.1 h
  have apart (d : Channel) (x : RenditionContext) (contexts : d.contexts = c.contexts.set r x)
      (assembly : d.assembly = c.assembly) : (d.holds : Multiset (SlotId × SlotState)) =
        (x.reference, .reference) ::ₘ
          ↑(Channel.holds { c with contexts := c.contexts.eraseIdx r }) := by
    rw [Multiset.cons_coe, Multiset.coe_eq_coe, holds, holds, assembly, contexts]
    exact (((List.set_perm_cons_eraseIdx inside x).map _).append_left _).trans List.perm_middle
  exact ⟨_, apart c c.contexts[r] (List.set_getElem_self inside).symm rfl, apart⟩

/-- R84 step 2 and R69: the recon slot takes the place of the reference, but for source damage. -/
theorem exists_holds_engineCompleted {j : Job} (h : c.contexts[j.rendition]? = some ctx)
    (spec : RenditionSpec) (record : DispatchRecord) (rep : CompletionReport) :
    ∃ rest : Multiset (SlotId × SlotState), (c.holds : Multiset (SlotId × SlotState)) =
        (ctx.reference, .reference) ::ₘ rest
      ∧ ((c.engineCompleted spec j record rep).holds : Multiset (SlotId × SlotState)) =
        (if rep.sourceDamaged = true then ctx.reference else record.recon, .reference)
          ::ₘ rest := by
  obtain ⟨rest, before, after⟩ := exists_holds_set h
  have full := updateFullness_eq h spec j.delta rep.size
  obtain ⟨inside, -⟩ := List.getElem?_eq_some_iff.1 h
  have written := after (c.engineCompleted spec j record rep)
  rw [engineCompleted_eq (by rw [full]; exact List.getElem?_set_self inside), full] at written
  rw [engineCompleted_eq (by rw [full]; exact List.getElem?_set_self inside), full]
  refine ⟨rest, before, (written _ (List.set_set ..) rfl).trans ?_⟩
  split
  · rw [RenditionContext.applyFullness_reference]
  · rfl

end Channel

/-! #### The slots of a job that ends (R84, R85) -/

namespace SlotPool
variable {p : SlotPool} {held : Multiset (SlotId × SlotState)} {reads : Multiset SlotId}

/-- R81: what an engine has written is a picture area. -/
theorem Law.drawRecon (law : p.Law held reads) (record : DispatchRecord) (rep : CompletionReport)
    (serial : Nat) : (p.drawRecon record rep serial).Law held reads := by
  unfold SlotPool.drawRecon
  split
  · exact law
  · exact law.congr rfl fun j => draw_state _ _ _ _

/-- R69: the old reference or, with source damage, the recon slot is freed. -/
theorem Law.swapReference {old : SlotId} {record : DispatchRecord}
    (law : p.Law ((record.recon, .recon) ::ₘ (old, .reference) ::ₘ held) reads) (damaged : Bool) :
    (p.swapReference old record damaged).Law
      ((if damaged = true then old else record.recon, .reference) ::ₘ held) reads := by
  cases damaged with
  | true => exact law.release
  | false =>
    have marked := law.mark (st' := .reference) rfl
    exact (marked.of_eq (Multiset.cons_swap _ _ _) rfl).release

theorem Law.swapReference_self {record : DispatchRecord}
    (law : p.Law ((record.recon, .recon) ::ₘ held) reads) (damaged : Bool) :
    (p.swapReference record.recon record damaged).Law held reads := by
  cases damaged with
  | true => exact law.release
  | false => exact (law.mark (st' := .reference) rfl).release

/-- R84 and R85: an engine job's read comes back. -/
theorem Law.dropJobSource {j : Job} (skip : j.skip = false)
    (law : p.Law held (↑j.reads.toList + reads)) : (p.dropJobSource j).Law held reads := by
  rw [Job.reads, skip, if_neg Bool.false_ne_true] at law
  unfold SlotPool.dropJobSource
  cases source : j.source with
  | none =>
    rw [source] at law
    exact law.of_eq rfl (zero_add _)
  | some src =>
    rw [source] at law
    exact Law.dropSource (law.of_eq rfl (Multiset.singleton_add _ _))

theorem dropJobSource_lists (p : SlotPool) (j : Job) :
    p.free.length ≤ (p.dropJobSource j).free.length
      ∧ (p.dropJobSource j).reserved = p.reserved := by
  unfold SlotPool.dropJobSource
  split
  · exact ⟨le_rfl, rfl⟩
  · next src _ =>
    obtain ⟨free, reserved⟩ := p.dropSource_lists src.slot
    refine ⟨?_, reserved⟩
    rcases free with free | free <;> simp [free]

/-- R69: a slot is freed whether or not the reference is replaced. -/
theorem swapReference_lists (p : SlotPool) (old : SlotId) (record : DispatchRecord)
    (damaged : Bool) : (p.swapReference old record damaged).free.length = p.free.length + 1
      ∧ (p.swapReference old record damaged).reserved = p.reserved := by
  cases damaged <;> simp [SlotPool.swapReference]

theorem drawRecon_lists (p : SlotPool) (record : DispatchRecord) (rep : CompletionReport)
    (serial : Nat) : (p.drawRecon record rep serial).free = p.free
      ∧ (p.drawRecon record rep serial).reserved = p.reserved := by
  unfold SlotPool.drawRecon
  split <;> exact ⟨rfl, rfl⟩

end SlotPool

/-! #### The job queue rewritten -/

/-- What is read off a list one of whose elements stands apart. -/
theorem coe_filterMap_of_perm {α β : Type} {l old rest : List α} (h : l.Perm (old ++ rest))
    (f : α → Option β) :
    (l.filterMap f : Multiset β) = ↑(old.filterMap f) + ↑(rest.filterMap f) := by
  rw [Multiset.coe_add, ← List.filterMap_append]
  exact Multiset.coe_eq_coe.2 (h.filterMap f)

theorem perm_cons_eraseIdx_of_getElem? {α : Type} {l : List α} {i : Nat} {x : α}
    (h : l[i]? = some x) : l.Perm ([x] ++ l.eraseIdx i) := by
  obtain ⟨inside, rfl⟩ := List.getElem?_eq_some_iff.1 h
  exact (List.getElem_cons_eraseIdx_perm inside).symm

namespace State
variable {s t : State} {A : Multiset (SlotId × SlotState)}

theorem runningEngines_perm {old rest : List Job} (h : s.jobs.Perm (old ++ rest)) :
    s.runningEngines.Perm (old.filterMap Job.engine? ++ rest.filterMap Job.engine?) := by
  rw [← List.filterMap_append]
  exact h.filterMap _

/-- Some jobs and a channel's record rewritten. -/
theorem Moves.of_jobs {ch : ChannelId} {c : Channel} {old new rest : List Job}
    (before : s.jobs.Perm (old ++ rest)) (after : t.jobs.Perm (new ++ rest))
    (channels : t.channels = s.channels.set ch c) (reserve : s.EngineReserve → t.EngineReserve)
    (law : (∀ j ∈ old, j.isRunning = true → j.skip = false) → ∀ held reads,
      s.pool.Law (↑(old.filterMap Job.holds) + (↑(s.channel ch).holds + held))
        (↑(old.filterMap Job.reads) + reads) →
      t.pool.Law (↑(new.filterMap Job.holds) + (↑c.holds + held))
        (↑(new.filterMap Job.reads) + reads))
    (skip : ∀ j ∈ new, j.isRunning = true → j.skip = false)
    (record : (s.channel ch).RecordOk → c.RecordOk)
    (reserved : t.pool.reserved = s.pool.reserved := by rfl)
    (decode : t.decode = s.decode := by rfl) (profiles : t.profiles = s.profiles := by rfl)
    (faults : t.faults = s.faults := by rfl) : s.Moves A t A := by
  refine ⟨fun ok => ⟨?_, ?_, fun x => ?_, profiles ▸ ok.counts⟩, reserve,
    FaultLog.keepsRecords_of_eq faults⟩
  · obtain ⟨others, was, is⟩ := exists_sum_set s.channels ch Channel.holds
    have was : ∑ x, ((s.channel x).holds : Multiset (SlotId × SlotState)) =
        ↑(s.channel ch).holds + others := was
    have is : ∑ x, ((t.channel x).holds : Multiset (SlotId × SlotState)) = ↑c.holds + others := by
      simp only [State.channel, channels]; exact is c
    have outstanding : t.pool.outstanding = s.pool.outstanding := by
      rw [SlotPool.outstanding, SlotPool.outstanding, reserved]
    have apart := law (fun j hj => ok.jobs j (before.mem_iff.2 (List.mem_append_left _ hj)))
      (A + (s.pool.outstanding + others + s.decode.holdings + ↑(rest.filterMap Job.holds)))
      (rest.filterMap Job.reads) (ok.law.of_eq ?_ (coe_filterMap_of_perm before _))
    · refine apart.of_eq ?_ (coe_filterMap_of_perm after _).symm
      rw [State.holdings, is, outstanding, decode, coe_filterMap_of_perm after]
      abel
    · rw [State.holdings, was, coe_filterMap_of_perm before]
      abel
  · intro j hj
    rcases List.mem_append.1 (after.mem_iff.1 hj) with hj | hj
    · exact skip j hj
    · exact ok.jobs j (before.mem_iff.2 (List.mem_append_right _ hj))
  · have written := State.channel_congr (t := s.modChannel ch fun _ => c) channels x
    rw [written, State.channel_modChannel]
    split
    · exact record (ok.records ch)
    · exact ok.records x

/-- R78: the slot that a job takes is made up for by the engine it runs on. -/
theorem engineReserve_of_start {e : EncodeEngineId} {x : EncodeEngine} {old new rest : List Job}
    (before : s.jobs.Perm (old ++ rest)) (after : t.jobs.Perm (new ++ rest))
    (queued : old.filterMap Job.engine? = []) (running : new.filterMap Job.engine? = [e])
    (idle : s.encode[e] = .idle) (encode : t.encode = s.encode.set e x) (busy : x.isBusy = true)
    (free : s.pool.free.length ≤ t.pool.free.length + 1) (ok : s.EngineReserve) :
    t.EngineReserve := by
  have was := runningEngines_perm before
  have is := runningEngines_perm after
  rw [queued, List.nil_append] at was
  rw [running] at is
  have joined : t.runningEngines.Perm (e :: s.runningEngines) := is.trans (was.symm.cons e)
  obtain ⟨distinct, engines, room⟩ := ok
  have new_engine : e ∉ s.runningEngines := fun he => by
    have := engines e he
    rw [idle] at this
    exact nomatch this
  refine ⟨joined.nodup_iff.2 (List.nodup_cons.2 ⟨new_engine, distinct⟩), fun g hg => ?_, ?_⟩
  · rw [encode, Fin.getElem_fin, Vector.getElem_set]
    split
    · exact busy
    · next ne =>
      refine engines g ((List.mem_cons.1 (joined.mem_iff.1 hg)).resolve_left ?_)
      rintro rfl
      exact ne rfl
  · rw [joined.length_eq, List.length_cons]; omega

/-- R84 and R85: the slot that a job's end frees makes up for the engine that it leaves. -/
theorem engineReserve_of_end {e : EncodeEngineId} {old rest : List Job}
    (before : s.jobs.Perm (old ++ rest)) (after : t.jobs = rest)
    (running : old.filterMap Job.engine? = [e]) (encode : t.encode = s.encode.set e .idle)
    (free : s.pool.free.length + 1 ≤ t.pool.free.length) (ok : s.EngineReserve) :
    t.EngineReserve := by
  have left := runningEngines_perm before
  rw [running, ← after] at left
  have left : s.runningEngines.Perm (e :: t.runningEngines) := left
  obtain ⟨distinct, engines, room⟩ := ok
  obtain ⟨gone, distinct⟩ := List.nodup_cons.1 (left.nodup_iff.1 distinct)
  refine ⟨distinct, fun g hg => ?_, ?_⟩
  · have other : ¬ e.val = g.val := fun h => gone (Fin.ext h ▸ hg)
    have busy := engines g (left.mem_iff.2 (List.mem_cons_of_mem e hg))
    rw [encode, Fin.getElem_fin, Vector.getElem_set, if_neg other]
    exact busy
  · rw [left.length_eq, List.length_cons] at room; omega

end State

namespace State
variable (s : State) {A : Multiset (SlotId × SlotState)} {i : Nat} {j : Job}
  (found : s.jobs[i]? = some j)
include found

/-- R78 and R79: a QUEUED engine job starts in the first slot of the free list. -/
theorem moves_startJob {record : DispatchRecord} {free : List SlotId} (queued : j.state = .queued)
    (skip : j.skip = false) (idle : s.encode[record.engine] = .idle)
    (head : s.pool.free = record.recon :: free) :
    s.Moves A (s.startJob i j record { s.pool.mark record.recon .recon with free := free }) A := by
  have before := perm_cons_eraseIdx_of_getElem? found
  obtain ⟨inside, -⟩ := List.getElem?_eq_some_iff.1 found
  have after : (s.jobs.set i { j with state := .running record false }).Perm
      ([{ j with state := .running record false }] ++ s.jobs.eraseIdx i) :=
    List.set_perm_cons_eraseIdx inside _
  have kept := (s.channel j.channel).keepsSlots_modContext (r := j.rendition)
    (f := fun x => { x with lastQI := some record.qi, inFlight := true }) fun _ => rfl
  refine .of_jobs before after rfl ?_ (fun _ held reads law => ?_) ?_ kept.record
  · refine engineReserve_of_start before after ?_ rfl idle rfl rfl ?_
    · simp [Job.engine?, queued]
    · rw [head]; exact le_rfl
  · have no_slot : [j].filterMap Job.holds = [] := by simp [Job.holds, queued]
    rw [no_slot, Multiset.coe_nil, zero_add] at law
    have taken := law.take (st := .recon) (taken := [record.recon]) (rest := free)
      (q := { s.pool.mark record.recon .recon with free := free }) rfl head rfl fun x =>
        (s.pool.mark_state _ x _).trans (if_congr List.mem_singleton.symm rfl rfl)
    rw [← kept.holds] at taken
    exact taken
  · simpa using fun _ => skip

/-- R80: the job that ends held no slot and read none. -/
theorem moves_completeSkip (queued : j.state = .queued) (skip : j.skip = true) :
    s.Moves A (s.completeSkip i j) A := by
  have before := perm_cons_eraseIdx_of_getElem? found
  have kept : (s.channel j.channel).KeepsSlots
      (((s.channel j.channel).skipCompleted (s.renditionSpec j.channel j.rendition) j.rendition
        j.delta j.isGood).completeInSegment j.segment j.rendition Config.skipUnitBytes) :=
    (Channel.keepsSlots_skipCompleted _ _ _ _ _).trans .of_eq
  have no_slot : [j].filterMap Job.holds = [] := by simp [Job.holds, queued]
  have no_read : [j].filterMap Job.reads = [] := by simp [Job.reads, skip]
  have no_engine : [j].filterMap Job.engine? = [] := by simp [Job.engine?, queued]
  refine .of_jobs (new := []) before (.refl _) rfl (fun ok => ?_) (fun _ held reads law => ?_)
    nofun kept.record
  · obtain ⟨distinct, engines, room⟩ := ok
    have left := runningEngines_perm before
    rw [no_engine, List.nil_append] at left
    exact ⟨left.nodup_iff.1 distinct, fun e he => engines e (left.mem_iff.2 he),
      left.length_eq ▸ room⟩
  · rw [no_slot, no_read, ← kept.holds] at law
    exact law

variable {record : DispatchRecord} {abandoned : Bool}
  (running : j.state = .running record abandoned)
include running

/-- R84 and R85: a job leaves its engine. -/
theorem moves_of_end {t : State} {p : SlotPool} {c : Channel}
    (channels : t.channels = s.channels.set j.channel c)
    (pool : t.pool = p.dropJobSource j)
    (law : ∀ held reads, s.pool.Law
        ((record.recon, .recon) ::ₘ (↑(s.channel j.channel).holds + held)) reads →
      p.Law (↑c.holds + held) reads)
    (free : p.free.length = s.pool.free.length + 1) (reserved : p.reserved = s.pool.reserved)
    (kept : (s.channel j.channel).RecordOk → c.RecordOk)
    (jobs : t.jobs = s.jobs.eraseIdx i := by rfl)
    (encode : t.encode = s.encode.set record.engine .idle := by rfl)
    (decode : t.decode = s.decode := by rfl) (profiles : t.profiles = s.profiles := by rfl)
    (faults : t.faults = s.faults := by rfl) : s.Moves A t A := by
  have before := perm_cons_eraseIdx_of_getElem? found
  obtain ⟨free', reserved'⟩ := p.dropJobSource_lists j
  have slot : [j].filterMap Job.holds = [(record.recon, .recon)] := by simp [Job.holds, running]
  refine .of_jobs (new := []) before (by rw [jobs]; exact .refl _) channels ?_
    (fun skips held reads was => ?_) nofun kept (by rw [pool, reserved', reserved]) decode profiles
    faults
  · refine engineReserve_of_end before jobs ?_ encode ?_
    · simp [Job.engine?, running]
    · rw [pool, ← free]; exact free'
  · have skip := skips j List.mem_cons_self (by simp [Job.isRunning, Job.isQueued, running])
    have read : ([j].filterMap Job.reads : Multiset SlotId) = ↑j.reads.toList := by
      rw [List.filterMap_cons]; cases j.reads <;> rfl
    rw [slot, Multiset.coe_singleton, Multiset.singleton_add, read] at was
    rw [pool]
    exact ((law _ _ was).dropJobSource skip).of_eq (zero_add _).symm (zero_add _).symm

theorem moves_abandonJob (rep : CompletionReport) :
    s.Moves A (s.abandonJob record.engine i j record rep) A := by
  have kept := (s.channel j.channel).keepsSlots_landed j.rendition
  obtain ⟨free, reserved⟩ := s.pool.drawRecon_lists record rep s.freeSerial
  refine s.moves_of_end found running rfl rfl (fun held reads law => ?_) ?_ ?_ kept.record
  · rw [← kept.holds] at law
    exact (law.drawRecon record rep s.freeSerial).release
  · simp [free]
  · simp [reserved]

theorem moves_completeJob (rep : CompletionReport) :
    s.Moves A (s.completeJob record.engine i j record rep) A := by
  have kept := Channel.keepsSlots_landed_completeInSegment
    ((s.channel j.channel).engineCompleted (s.renditionSpec j.channel j.rendition) j record rep)
    j.segment j.rendition rep.size
  obtain ⟨free, reserved⟩ := s.pool.drawRecon_lists record rep s.freeSerial
  have lists := (s.pool.drawRecon record rep s.freeSerial).swapReference_lists
    ((((s.channel j.channel).contexts[j.rendition]?).map (fun x => x.reference)).getD record.recon)
    record rep.sourceDamaged
  refine s.moves_of_end found running (c := ((((s.channel j.channel).engineCompleted
      (s.renditionSpec j.channel j.rendition) j record rep).completeInSegment j.segment j.rendition
      rep.size).landed j.rendition)) rfl rfl (fun held reads law => ?_) ?_ ?_ fun ok =>
    kept.record (Channel.recordOk_engineCompleted ok _ _ _ _)
  · have drawn := law.drawRecon record rep s.freeSerial
    rw [kept.holds]
    cases context : (s.channel j.channel).contexts[j.rendition]? with
    | none =>
      rw [Channel.engineCompleted_holds_of_none _ context]
      exact drawn.swapReference_self rep.sourceDamaged
    | some ctx =>
      obtain ⟨others, was, is⟩ := Channel.exists_holds_engineCompleted context
        (s.renditionSpec j.channel j.rendition) record rep
      rw [was, Multiset.cons_add] at drawn
      rw [is, Multiset.cons_add]
      exact drawn.swapReference rep.sourceDamaged
  · rw [lists.1, free]
  · rw [lists.2, reserved]

end State

/-! #### The jobs that ABORT leaves (R13, R86) -/

/-- What is read off a list, parted by element. -/
theorem coe_filterMap_of_parted {α β : Type} {f g h : α → Option β}
    (parted : ∀ a, f a = g a ∧ h a = none ∨ g a = none ∧ f a = h a) (l : List α) :
    (l.filterMap f : Multiset β) = ↑(l.filterMap g) + ↑(l.filterMap h) := by
  have option (a : α) (f : α → Option β) (l : List α) :
      (((a :: l).filterMap f : List β) : Multiset β) = ↑(f a).toList + ↑(l.filterMap f) := by
    rw [List.filterMap_cons, Multiset.coe_add]; cases f a <;> rfl
  induction l with
  | nil => rfl
  | cons a l ih =>
    rw [option, option, option, ih]
    rcases parted a with ⟨same, none⟩ | ⟨none, same⟩
    · rw [same, none, Option.toList_none, Multiset.coe_nil, zero_add, add_assoc]
    · rw [same, none, Option.toList_none, Multiset.coe_nil, zero_add, add_left_comm]

namespace Job
variable {j : Job} {ch : ChannelId}

theorem afterAbort_of_removed (h : j.channel = ch) (queued : j.state = .queued) :
    j.afterAbort ch = none := by
  rw [afterAbort, if_pos (beq_iff_eq.2 h), queued]

/-- R86: a job that is left has the engine, the slot and the source it had. -/
theorem afterAbort_of_left (h : ¬ (j.channel = ch ∧ j.state = .queued)) :
    ∃ k, j.afterAbort ch = some k ∧ k.reads = j.reads ∧ k.holds = j.holds
      ∧ k.engine? = j.engine? ∧ k.skip = j.skip ∧ k.isRunning = j.isRunning := by
  unfold afterAbort
  split
  · next same =>
    cases state : j.state with
    | queued => exact absurd ⟨beq_iff_eq.1 same, state⟩ h
    | running record b =>
      refine ⟨_, rfl, rfl, ?_, ?_, rfl, ?_⟩
      · simp only [holds, state]
      · simp only [engine?, state]
      · simp [isRunning, isQueued, state]
  · exact ⟨j, rfl, rfl, rfl, rfl, rfl, rfl⟩

/-- What only RUNNING jobs have, ABORT leaves. -/
theorem filterMap_afterAbort {β : Type} {f : Job → Option β}
    (queued : ∀ j : Job, j.state = .queued → f j = none)
    (left : ∀ j k : Job, j.afterAbort ch = some k → f k = f j) (jobs : List Job) :
    (jobs.filterMap (fun j => j.afterAbort ch)).filterMap f = jobs.filterMap f := by
  rw [List.filterMap_filterMap]
  congr 1
  funext j
  by_cases h : j.channel = ch ∧ j.state = .queued
  · rw [afterAbort_of_removed h.1 h.2, queued j h.2]; rfl
  · obtain ⟨k, is, -⟩ := afterAbort_of_left h
    rw [is]; exact left j k is

end Job

/-- R13 and R96: the reads of the jobs that ABORT removes come back. -/
theorem coe_reads_eq_removedSources_add (jobs : List Job) (ch : ChannelId) :
    (jobs.filterMap Job.reads : Multiset SlotId) = ↑(removedSources jobs ch)
      + ↑((jobs.filterMap (fun j => j.afterAbort ch)).filterMap Job.reads) := by
  have removed : removedSources jobs ch = jobs.filterMap fun j =>
      if j.channel = ch ∧ j.state = .queued then j.reads else none := by
    rw [removedSources, ← List.filterMap_eq_filter, List.filterMap_filterMap]
    congr 1
    funext j
    simp only [Job.reads, Option.guard, Bool.and_eq_true, beq_iff_eq, Job.isQueued_iff]
    by_cases h : j.channel = ch ∧ j.state = .queued
    · cases skip : j.skip <;> simp [h]
    · simp [h]
  rw [removed, List.filterMap_filterMap]
  refine coe_filterMap_of_parted (fun j => ?_) jobs
  by_cases h : j.channel = ch ∧ j.state = .queued
  · rw [if_pos h, Job.afterAbort_of_removed h.1 h.2]; exact .inl ⟨rfl, rfl⟩
  · obtain ⟨k, is, reads, -⟩ := Job.afterAbort_of_left h
    rw [if_neg h, is]; exact .inr ⟨rfl, reads.symm⟩

theorem SlotPool.foldl_dropSource_lists (slots : List SlotId) :
    ∀ p : SlotPool, p.free.length ≤ (slots.foldl SlotPool.dropSource p).free.length
      ∧ (slots.foldl SlotPool.dropSource p).reserved = p.reserved := by
  induction slots with
  | nil => exact fun p => ⟨le_rfl, rfl⟩
  | cons i l ih =>
    intro p
    obtain ⟨more, reserved⟩ := ih (p.dropSource i)
    obtain ⟨free, same⟩ := p.dropSource_lists i
    refine ⟨le_trans ?_ more, reserved.trans same⟩
    rcases free with free | free <;> simp [free]

namespace State
variable (s : State) {A : Multiset (SlotId × SlotState)} (ch : ChannelId)

theorem moves_abortJobs : s.Moves A (s.abortJobs ch) A := by
  have left {j k : Job} (h : j.afterAbort ch = some k) : k.holds = j.holds
      ∧ k.engine? = j.engine? ∧ k.skip = j.skip ∧ k.isRunning = j.isRunning := by
    have kept : ¬ (j.channel = ch ∧ j.state = .queued) := fun gone =>
      nomatch h.symm.trans (Job.afterAbort_of_removed gone.1 gone.2)
    obtain ⟨x, is, -, rest⟩ := Job.afterAbort_of_left kept
    cases h.symm.trans is
    exact rest
  have holds : (s.abortJobs ch).jobs.filterMap Job.holds = s.jobs.filterMap Job.holds :=
    Job.filterMap_afterAbort (fun j h => by rw [Job.holds, h]) (fun j k h => (left h).1) _
  have engines : (s.abortJobs ch).runningEngines = s.runningEngines :=
    Job.filterMap_afterAbort (fun j h => by rw [Job.engine?, h]) (fun j k h => (left h).2.1) _
  obtain ⟨free, reserved⟩ := SlotPool.foldl_dropSource_lists (removedSources s.jobs ch) s.pool
  refine ⟨fun ok => ⟨?_, fun k hk => ?_, ok.records, ok.counts⟩,
    State.engineReserve_of_le engines rfl free, FaultLog.keepsRecords_of_eq rfl⟩
  · have holdings : (s.abortJobs ch).holdings = s.holdings := by
      have outstanding : (s.abortJobs ch).pool.outstanding = s.pool.outstanding := by
        rw [SlotPool.outstanding, SlotPool.outstanding]; exact congrArg _ (congrArg _ reserved)
      rw [State.holdings, State.holdings, holds, outstanding]
      rfl
    rw [holdings]
    exact (ok.law.of_eq rfl (coe_reads_eq_removedSources_add s.jobs ch)).dropAll
  · obtain ⟨j, hj, is⟩ := List.mem_filterMap.1 hk
    obtain ⟨-, -, skip, running⟩ := left is
    rw [skip, running]
    exact ok.jobs j hj

theorem moves_abortQueue : s.Moves A (s.abortQueue ch) A := by
  have parted : (s.decode.queue.filter (fun e => e.channel == ch)
      ++ s.decode.queue.filter (fun e => e.channel != ch)).Perm s.decode.queue :=
    List.filter_append_perm _ _
  have left : s.Moves A { s with decode := { s.decode with
        queue := s.decode.queue.filter (fun e => e.channel != ch) } }
      (↑((s.decode.queue.filter (fun e => e.channel == ch)).map
        (fun x => (x.slot, SlotState.decodeWait))) + A) := by
    refine .of_queue rfl ?_
    rw [← Multiset.coe_eq_coe.2 (parted.map _)]
    exact balance_of_append A List.map_append
  refine left.trans ?_
  have slots : ((s.decode.queue.filter (fun e => e.channel == ch)).map
        (fun x => (x.slot, SlotState.decodeWait))).map (fun x => x.1) =
      (s.decode.queue.filter (fun e => e.channel == ch)).map (fun e => e.slot) := List.map_map
  unfold abortQueue
  rw [← slots]
  exact .releaseAll

theorem moves_abortDecodeEngine (e : DecodeEngineId) : s.Moves A (s.abortDecodeEngine ch e) A := by
  unfold abortDecodeEngine
  split
  · exact .refl
  · next entry _ busy =>
    split
    · exact .of_engine (e := e) (x := .decoding entry true) rfl (by rw [busy]; rfl)
    · exact .refl
  · next pic holding =>
    split
    · have idled := s.moves_idleHeld (A := A) holding (s.decode.held.filter (fun x => x != e))
      cases source : pic.source with
      | none =>
        rw [DecodedPicture.held_of_none source, zero_add] at idled
        exact idled.trans (moves_clearDecode _ _)
      | some src =>
        rw [DecodedPicture.held_of_some source] at idled
        exact idled.trans (Moves.releaseSlot.trans (moves_clearDecode _ _))
    · exact .refl

theorem moves_abortWork : s.Moves A (s.abortWork ch) A := by
  rw [abortWork_stages]
  have discarded : s.Moves A
      ((s.modChannel ch fun c => { c with state := .aborting }).discardPartial ch) A :=
    s.moves_withoutPartial rfl rfl nofun
  have engines := Moves.foldl (A := A) (fun t e => t.moves_abortDecodeEngine ch e) (List.finRange 2)
  generalize (s.modChannel ch fun c => { c with state := .aborting }).discardPartial ch = t
    at discarded ⊢
  have aborted := (discarded.trans (t.moves_abortQueue ch)).trans (engines _)
  generalize (List.finRange 2).foldl (State.abortDecodeEngine ch) _ = u at aborted ⊢
  have rested : (u.abortJobs ch).Moves A
      ((u.abortJobs ch).modChannel ch Channel.withoutSegments) A := .modChannel .of_eq
  exact (aborted.trans (u.moves_abortJobs ch)).trans (rested.trans .of_same)

/-- R12 and R15: a channel with no partial picture ends. -/
theorem moves_endChannel (outcome : ChannelOutcome) (ending : (s.channel ch).state ≠ .running) :
    s.Moves A (s.endChannel ch outcome) A := by
  have no_partial (ok : (s.channel ch).RecordOk) : (s.channel ch).assembly = none :=
    not_not.1 fun some => ending (ok.1 some)
  have slots : ((s.channel ch).contexts.map (fun x => (x.reference, SlotState.reference))).map
      (fun x => x.1) = (s.channel ch).contexts.map (fun x => x.reference) := List.map_map
  have closed : s.Moves A (s.modChannel ch Channel.closed)
      (↑((s.channel ch).contexts.map (fun x => (x.reference, SlotState.reference))) + A) := by
    refine .of_set (c := (s.channel ch).closed) rfl (fun ok => ?_) fun ok =>
      ⟨fun some => absurd (no_partial ok) some, fun _ => rfl⟩
    have none := no_partial (ok.records ch)
    have empty : (s.channel ch).closed.holds = [] := Channel.holds_of_none none
    rw [empty, Channel.holds_of_none none]
    exact balance_of_append A (List.append_nil _).symm
  have freed := closed.trans Moves.releaseAll
  rw [slots] at freed
  exact freed.trans .of_same

theorem moves_finishAbort : s.Moves A (s.finishAbort ch).1 A := by
  unfold finishAbort
  split
  · next done =>
    refine s.moves_endChannel ch .aborted fun running => ?_
    simp [Channel.abortDone, running] at done
  · exact .refl

end State

/-! #### OPEN, RESTART and power-on reset -/

theorem SlotPool.cleared_free (p : SlotPool) (serial : Nat) :
    (p.cleared serial).free = List.finRange 512 := by rw [cleared]

/-- R89: in a cleared pool every slot is FREE. -/
theorem SlotPool.cleared_law (p : SlotPool) (serial : Nat) : (p.cleared serial).Law 0 0 where
  free_nodup := by rw [cleared_free]; exact List.nodup_finRange 512
  held_nodup := Multiset.nodup_zero
  at_slot i := by
    have free : (p.cleared serial).slots[i].state = .free := by
      simp only [cleared, Fin.getElem_fin, Vector.getElem_ofFn]
    exact .of_free free (by rw [cleared_free]; exact List.mem_finRange i)
      (fun _ => Multiset.notMem_zero _) (Multiset.count_zero _)

/-- R3 and R4: a channel that opens holds the slots it takes as references. -/
theorem Channel.holds_atOpen {profile : Profile} {slots : List SlotId}
    (length : slots.length ≤ 4) (course : BitVec 24) (p : ProfileId) (cls : Fin 4) :
    (Channel.atOpen course p profile cls slots).holds =
      slots.map (fun i => (i, SlotState.reference)) := by
  rw [holds_of_none rfl]
  refine List.ext_getElem ?_ fun r _ _ => ?_
  · simpa [Channel.atOpen] using length
  · simp [Channel.atOpen, RenditionContext.atOpen]

namespace State
variable {s t : State}

/-- R162 and R163: nothing is held once every record is cleared and the queues are empty. -/
theorem storeOk_of_cleared (pool : t.pool = s.pool.cleared s.freeSerial)
    (channels : t.channels = Vector.replicate 32 Channel.cleared) (decode : t.decode = .idle)
    (jobs : t.jobs = [])
    (counts : ∀ p : ProfileId, t.profiles[p].valid = true → t.profiles[p].count ≤ 4) :
    t.StoreOk 0 := by
  have record (ch : ChannelId) : t.channel ch = Channel.cleared := by simp [State.channel, channels]
  have reserved : t.pool.outstanding = 0 := by rw [pool]; rfl
  have units : t.decode.holdings = 0 := by
    simp [decode, DecodeUnit.holdings, DecodeUnit.idle, DecodeEngine.holds]
  have empty : Channel.cleared.holds = [] := rfl
  have holdings : t.holdings = 0 := by
    simp [State.holdings, reserved, record, empty, units, jobs]
  have reads : t.reads = 0 := by rw [State.reads, jobs]; rfl
  refine ⟨?_, by simp [jobs], fun ch => ?_, counts⟩
  · rw [holdings, reads, pool]; exact s.pool.cleared_law _
  · rw [record]; exact ⟨fun h => absurd rfl h, fun _ => rfl⟩

theorem engineReserve_of_cleared (pool : t.pool = s.pool.cleared s.freeSerial)
    (jobs : t.jobs = []) : t.EngineReserve := by
  have idle : t.runningEngines = [] := by rw [runningEngines, jobs]; rfl
  refine ⟨idle ▸ List.nodup_nil, fun e he => ?_, ?_⟩
  · rw [idle] at he; exact nomatch he
  · have all : t.pool.free.length = 512 := by
      rw [pool, SlotPool.cleared_free]; exact List.length_finRange
    omega

theorem moves_restart (s : State) : s.Moves 0 s.restart 0 where
  store ok := storeOk_of_cleared rfl rfl rfl rfl ok.counts
  reserve _ := engineReserve_of_cleared rfl rfl
  log := FaultLog.keepsRecords_of_eq rfl

theorem moves_openWith (s : State) {ch : ChannelId} {p : ProfileId} (course : BitVec 24)
    (cls : Fin 4) (closed : (s.channel ch).state = .closed) (valid : s.profiles[p].valid = true)
    (room : s.profiles[p].count + 8 ≤ s.pool.free.length) :
    s.Moves 0 (s.openWith ch course p cls) 0 := by
  obtain ⟨slots, free, reserved, written⟩ :=
    SlotPool.takeMany_spec s.profiles[p].count .reference s.pool (by omega)
  have opened : s.openWith ch course p cls = { s with
      pool := (SlotPool.takeMany s.profiles[p].count .reference s.pool).2
      channels := s.channels.set ch (Channel.atOpen course p s.profiles[p] cls
        (s.pool.free.take s.profiles[p].count)) } := by
    rw [← slots]; rfl
  rw [opened]
  generalize (SlotPool.takeMany s.profiles[p].count .reference s.pool).2 = q
    at free reserved written ⊢
  have taken : s.Moves 0 { s with pool := q }
      ↑((s.pool.free.take s.profiles[p].count).map (fun i => (i, SlotState.reference))) := by
    refine .of_pool (fun held law => ?_) (.inr ?_)
    · refine (law.take (st := .reference) rfl (List.take_append_drop _ _).symm free
        fun j => ?_).of_eq ?_ rfl
      · rw [written]; split <;> rfl
      · rw [SlotPool.outstanding, SlotPool.outstanding, reserved, zero_add]
    · rw [free, List.length_drop]; omega
  refine taken.trans (.of_set (c := Channel.atOpen course p s.profiles[p] cls
    (s.pool.free.take s.profiles[p].count)) rfl (fun ok => ?_) fun _ => ⟨fun _ => rfl, nofun⟩)
  have few : (s.pool.free.take s.profiles[p].count).length ≤ 4 :=
    (List.length_take_le _ _).trans (ok.counts p valid)
  have record : (s.channel ch).RecordOk := ok.records ch
  obtain ⟨partials, contexts⟩ := record
  have none : (s.channel ch).assembly = none := not_not.1 fun some =>
    nomatch closed.symm.trans (partials some)
  have empty : (s.channel ch).holds = [] := by
    rw [Channel.holds_of_none none, contexts closed]; rfl
  have was : State.channel { s with pool := q } ch = s.channel ch := rfl
  rw [was, empty, Channel.holds_atOpen few, Multiset.coe_nil, add_zero, zero_add]

end State

end Sys2Proof.Machine

/-! SUPPORT. The frame store under every command, the directives by what they do to the state they
are taken in; then the statements on the slot pool, the engine reserve, the fault log and the reads
of the encode engines. -/

namespace Sys2Proof.Machine

-- One after another: elaborated side by side, these many case splits exceed the memory limit.
set_option Elab.async false

/-! ### What the commands answer -/

/-- A command answers a next state from which nothing of the frame store is lost, or it stops while
the engine reserve does not hold. -/
def Answers (s : State) : Host.Outcome State Fault Refusal → Prop
  | .next t => s.Moves 0 t 0
  | .fault _ => ¬ s.EngineReserve
  | .refused _ => False

namespace Answers
variable {s u : State} {o o' : Host.Outcome State Fault Refusal}

theorem next {t : State} (h : s.Moves 0 t 0) : Answers s (.next t) := h

theorem same : Answers s (.next s) := next .refl

theorem after (h : s.Moves 0 u 0) (k : Answers u o) : Answers s o := by
  cases o with
  | next t => exact h.trans k
  | fault r => exact fun ok => k (h.reserve ok)
  | refused r => exact k

theorem ite {c : Prop} [Decidable c] (h : Answers s o) (k : Answers s o') :
    Answers s (if c then o else o') := by
  split
  · exact h
  · exact k

end Answers

section Commands
variable (s : State)

/-- R141: the return direction holds no slot. -/
theorem State.moves_beginReturn : s.Moves 0 s.beginReturn 0 := .of_eq

theorem execPictureStartFrame_answers (p : StartPosition) (f : MediaFrame) :
    Answers s (execPictureStartFrame p f s) := by
  refine .after s.moves_beginReturn (.ite .same (.ite (.next (State.moves_headerFailure _)) ?_))
  split
  · exact .next .of_same
  · next slot rest reserved =>
    have spent : s.beginReturn.Moves 0 { s.beginReturn with
        pool := { s.beginReturn.pool with reserved := rest } } ((slot, .reserved) ::ₘ 0) := by
      refine .of_pool (fun held law => (law.of_eq ?_ rfl).congr rfl fun _ => rfl) (.inl le_rfl)
      rw [SlotPool.outstanding, SlotPool.outstanding, reserved, List.map_cons, ← Multiset.cons_coe,
        Multiset.cons_add, Multiset.cons_add]
      exact Multiset.add_cons _ _ _
    exact .ite (.next (spent.trans (State.moves_startPicture _ p f slot)))
      (.next (spent.trans (State.moves_startPictureFailed _ f slot)))

theorem execPictureContinuationFrame_answers (p : ContinuationPosition) (f : MediaFrame) :
    Answers s (execPictureContinuationFrame p f s) :=
  .after s.moves_beginReturn (.ite .same (.ite (.next (State.moves_headerFailure _))
    (.ite (.next (State.moves_continuePicture _ p f))
      (.next (State.moves_continuationFailed _ f)))))

theorem execSmallUnitFrame_answers (k : SmallKind) (p : Position) (f : MediaFrame) :
    Answers s (execSmallUnitFrame k p f s) := by
  refine .after s.moves_beginReturn (.ite .same (.ite (.next (State.moves_headerFailure _))
    (.ite (.next .of_same) ?_)))
  have spent : s.beginReturn.Moves 0 { s.beginReturn with ingest := { s.beginReturn.ingest with
      smallOutstanding := s.beginReturn.ingest.smallOutstanding - 1 } } 0 := .of_same
  exact .ite (.next (spent.trans (State.moves_startSmall _ k p f)))
    (.next (spent.trans (State.moves_smallFailed _ p f)))

theorem execUnitKindNoneFrame_answers (p : Position) (f : MediaFrame) :
    Answers s (execUnitKindNoneFrame p f s) :=
  .after s.moves_beginReturn (.ite .same (.ite (.next (State.moves_headerFailure _))
    (.ite (.next (State.moves_stray _)) (.next .of_same))))

theorem execHeaderCheckFailure_answers (header : List Byte) :
    Answers s (execHeaderCheckFailure header s) :=
  .after s.moves_beginReturn (.ite (.next (State.moves_headerFailure _)) .same)

theorem execIngestLinkUp_answers : Answers s (execIngestLinkUp s) :=
  .after s.moves_beginReturn (.ite .same (.next .of_same))

theorem execIngestLinkDown_answers (inHand : Nat) : Answers s (execIngestLinkDown inHand s) := by
  have lost := s.beginReturn.moves_ingestLoss (A := 0)
  refine .after s.moves_beginReturn ?_
  unfold execIngestLinkDown
  dsimp only
  generalize s.beginReturn.ingestLoss = t at lost ⊢
  exact .ite .same (.next (lost.trans .of_same))

/-- R138: the grant leaves the engine reserve. -/
theorem execPictureCreditGrant_answers : Answers s (execPictureCreditGrant s) := by
  have few : s.pictureGrant ≤ s.pool.free.length - 8 := by
    unfold State.pictureGrant
    split
    · exact Nat.min_le_right _ _
    · exact Nat.zero_le _
  unfold execPictureCreditGrant
  dsimp only
  split
  · exact .same
  · next pos => exact .next ((s.moves_reserveMany pos few).trans .of_same)

theorem execSmallCreditGrant_answers : Answers s (execSmallCreditGrant s) :=
  .ite .same (.next .of_same)

theorem execDirectiveCreditGrant_answers : Answers s (execDirectiveCreditGrant s) :=
  .ite .same (.next .of_same)

theorem execCreditFrameSent_answers : Answers s (execCreditFrameSent s) :=
  .after s.moves_beginReturn (.ite (.next .of_same) .same)

theorem execReportFrameSent_answers : Answers s (execReportFrameSent s) := by
  refine .after s.moves_beginReturn ?_
  unfold execReportFrameSent
  dsimp only
  split
  · exact .next .of_same
  · exact .next .of_same
  · exact .same

theorem execEgressCredit_answers (f : RawFrame) : Answers s (execEgressCredit f s) :=
  .after s.moves_beginReturn (.ite (.next .of_same) .same)

theorem execEgressLinkUp_answers : Answers s (execEgressLinkUp s) :=
  .after s.moves_beginReturn (.next .of_same)

theorem execEgressLinkDown_answers : Answers s (execEgressLinkDown s) :=
  .after s.moves_beginReturn (.ite .same (.next (.startStall .of_same)))

theorem execEgressRead_answers (o : ReadOutcome) : Answers s (execEgressRead o s) := by
  refine .after s.moves_beginReturn ?_
  unfold execEgressRead
  dsimp only
  split
  · exact .next (.startStall ((State.moves_reportRead _ o _).trans .of_same))
  · exact .same

theorem execEgressFrameBegin_answers : Answers s (execEgressFrameBegin s) := by
  refine .after s.moves_beginReturn ?_
  unfold execEgressFrameBegin
  dsimp only
  split
  · exact .ite (.next .of_same) .same
  · exact .same

theorem execEgressFrameSent_answers : Answers s (execEgressFrameSent s) := by
  refine .after s.moves_beginReturn ?_
  unfold execEgressFrameSent
  dsimp only
  split
  · exact .next (.startStall .of_same)
  · exact .ite (.next (.startStall (.settleHold .of_same))) (.next (.startStall .of_same))
  · exact .same

theorem execStallTimerExpiry_answers : Answers s (execStallTimerExpiry s) :=
  .after s.moves_beginReturn (.ite (.next (.raise .of_same)) .same)

theorem State.idleDecodeEngine_spec {s : State} {e : DecodeEngineId}
    (h : s.idleDecodeEngine = some e) : s.decode.engines[e] = .idle := by
  rw [idleDecodeEngine] at h
  have idle := List.find?_some h
  exact beq_iff_eq.1 idle

theorem execDecodeDispatch_answers : Answers s (execDecodeDispatch s) := by
  refine .after s.moves_beginReturn ?_
  unfold execDecodeDispatch
  dsimp only
  split
  · next idle found =>
    exact .next (State.moves_startDecode _ (State.idleDecodeEngine_spec idle) found)
  · exact .same

theorem execDecodeCompletion_answers (e : DecodeEngineId) (o : ReadOutcome) (decodable : Bool) :
    Answers s (execDecodeCompletion e o decodable s) := by
  refine .after s.moves_beginReturn ?_
  unfold execDecodeCompletion
  dsimp only
  split
  · next d abandoned busy =>
    have drawn (good : Bool) := (s.beginReturn.moves_reportRead (A := 0) o d.faultRecord).trans
      (State.moves_drawDecoded _ d good)
    have still (good : Bool) : ((s.beginReturn.reportRead o d.faultRecord).drawDecoded d
        good).decode.engines[e] = .decoding d abandoned := by
      simpa using busy
    exact .after (drawn _) (.ite (.next (State.moves_finishDecode _ (still _) _).settleHold)
      (.next (State.moves_abandonDecode _ (still _)).settleHold))
  · exact .same

theorem execTakeHeldPicture_answers : Answers s (execTakeHeldPicture s) := by
  refine .after s.moves_beginReturn ?_
  unfold execTakeHeldPicture
  dsimp only
  split
  · exact .same
  · split
    · next e rest _ _ pic holding =>
      have taken := s.beginReturn.moves_takeHeld (A := 0) (rest := rest) holding
      generalize s.beginReturn.takePicture pic = t at taken ⊢
      exact .ite (.next taken) .same
    · exact .same

/-! #### The job queue -/

theorem State.idleEncodeEngine_spec {s : State} {e : EncodeEngineId}
    (h : s.idleEncodeEngine = some e) : s.encode[e] = .idle := by
  rw [idleEncodeEngine] at h
  have idle := List.find?_some h
  exact beq_iff_eq.1 idle

/-- R76 and R77: the job selected is a QUEUED engine job. -/
theorem selectJob_spec {jobs : List Job} {i : Nat} {j : Job} (h : selectJob jobs = some i)
    (hj : jobs[i]? = some j) : j.state = .queued ∧ j.skip = false := by
  have candidate := (mem_of_mem_foldl_preferJob _ h).resolve_left (Option.not_mem_none i)
  obtain ⟨k, hk, queued, skip, -⟩ := mem_engineCandidates_iff.1 candidate
  cases hj.symm.trans hk
  exact ⟨queued, skip⟩

/-- R76: an eligible job is QUEUED. -/
theorem eligibleOf_spec {jobs : List Job} {ch : ChannelId} {r i : Nat} {j : Job}
    (h : eligibleOf jobs ch r = some i) (hj : jobs[i]? = some j) : j.state = .queued := by
  rw [eligibleOf] at h
  have eligible := List.find?_some h
  exact ((eligibleAt_iff hj).1 (Bool.and_eq_true_iff.1 eligible).1).1

/-- R79 and R92: while the reserve holds the free list is not empty, for there are 6 engines. -/
theorem State.EngineReserve.free_ne_nil {s : State} (ok : s.EngineReserve) : s.pool.free ≠ [] := by
  intro empty
  obtain ⟨distinct, -, room⟩ := ok
  have engines : s.runningEngines.length ≤ 6 := by
    simpa using distinct.length_le_card
  rw [empty, List.length_nil] at room
  omega

theorem execEngineDispatch_answers : Answers s (execEngineDispatch s) := by
  refine .after s.moves_beginReturn ?_
  unfold execEngineDispatch
  dsimp only
  split
  · next engine i _ idle selected =>
    split
    · exact .same
    · next j found =>
      obtain ⟨queued, skip⟩ := selectJob_spec selected found
      split
      · refine .ite .same ?_
        cases head : s.beginReturn.pool.free with
        | nil =>
          rw [SlotPool.take_of_nil head]
          exact fun ok => ok.free_ne_nil head
        | cons recon rest =>
          rw [SlotPool.take_of_cons head]
          exact .next (State.moves_startJob _ found queued skip
            (State.idleEncodeEngine_spec idle) head)
      · exact .same
  · exact .same

theorem execSkipCompletion_answers (ch : ChannelId) (r : Fin 4) :
    Answers s (execSkipCompletion ch r s) := by
  refine .after s.moves_beginReturn ?_
  unfold execSkipCompletion
  dsimp only
  split
  · next eligible =>
    split
    · next found =>
      split
      · next skips =>
        exact .next (State.moves_completeSkip _ found (eligibleOf_spec eligible found)
          (Bool.and_eq_true_iff.1 skips).1)
      · exact .same
    · exact .same
  · exact .same

theorem execEncodeCompletion_answers (e : EncodeEngineId) (r : CompletionReport) :
    Answers s (execEncodeCompletion e r s) := by
  refine .after s.moves_beginReturn ?_
  unfold execEncodeCompletion
  dsimp only
  split
  · next running =>
    obtain ⟨found, state, rfl⟩ := runningOn_spec running
    exact .ite (.ite (.next (State.moves_completeJob _ found state r).settleHold)
      (.next (State.moves_abandonJob _ found state r).settleHold)) .same
  · exact .same

/-- R97: an engine that reads stays busy. -/
theorem State.moves_setEncode {e : EncodeEngineId} {x : EncodeEngine} (busy : x.isBusy = true)
    {A : Multiset (SlotId × SlotState)} :
    s.Moves A { s with encode := s.encode.set e x } A where
  store ok := ⟨ok.law, ok.jobs, ok.records, ok.counts⟩
  reserve ok := by
    obtain ⟨distinct, engines, room⟩ := ok
    refine ⟨distinct, fun g hg => ?_, room⟩
    rw [Fin.getElem_fin, Vector.getElem_set]
    split
    · exact busy
    · exact engines g hg
  log := FaultLog.keepsRecords_of_eq rfl

theorem isBusy_of_nextReads {key : Bool} {sourceRead referenceRead : Option ReadOutcome}
    {r : EngineRead} {o : ReadOutcome} {x : EncodeEngine}
    (h : nextReads key sourceRead referenceRead r o = some x) : x.isBusy = true := by
  unfold nextReads at h
  split at h
  · split at h
    · exact nomatch h
    · cases h; rfl
  · split at h
    · exact nomatch h
    · cases h; rfl

theorem execEncodeEngineRead_answers (e : EncodeEngineId) (r : EngineRead) (o : ReadOutcome) :
    Answers s (execEncodeEngineRead e r o s) := by
  refine .after s.moves_beginReturn ?_
  unfold execEncodeEngineRead
  dsimp only
  split
  · split
    · exact .same
    · next reads =>
      exact .next ((State.moves_reportRead _ o _).trans
        (State.moves_setEncode _ (isBusy_of_nextReads reads)))
  · exact .same

/-! #### The segmenter, the audio path and the channel table -/

theorem execSegmentRecord_answers (ch : ChannelId) : Answers s (execSegmentRecord ch s) := by
  refine .after s.moves_beginReturn ?_
  unfold execSegmentRecord
  dsimp only
  split
  · exact .same
  · exact .ite .same (.next (.of_record rfl .of_eq))

theorem execFinalSegmentClose_answers (ch : ChannelId) :
    Answers s (execFinalSegmentClose ch s) := by
  refine .after s.moves_beginReturn ?_
  unfold execFinalSegmentClose
  dsimp only
  split
  · exact .same
  · exact .ite (.next (.modChannel ((Channel.keepsSlots_modNewest _ _).trans .of_eq))) .same

theorem execDrainCompletion_answers (ch : ChannelId) : Answers s (execDrainCompletion ch s) := by
  refine .after s.moves_beginReturn ?_
  unfold execDrainCompletion
  dsimp only
  split
  · next done =>
    refine .next (State.moves_endChannel _ ch .completed fun running => ?_).raise
    rw [State.drained, running] at done
    simp at done
  · exact .same

theorem execAbortCompletion_answers (ch : ChannelId) : Answers s (execAbortCompletion ch s) :=
  .after s.moves_beginReturn (.next (State.moves_finishAbort _ ch).raiseAll)

theorem State.moves_sendAudio (u : SmallUnit) : s.Moves 0 (s.sendAudio u) 0 := by
  have added (c : Channel) (n : Nat) : c.KeepsSlots (c.addAudio n) := by
    unfold Channel.addAudio
    split
    · exact c.keepsSlots_modNewest _
    · exact .of_eq
  exact .of_record rfl ((added _ _).trans .of_eq)

theorem execProcessAudioUnit_answers : Answers s (execProcessAudioUnit s) := by
  refine .after s.moves_beginReturn ?_
  unfold execProcessAudioUnit
  dsimp only
  split
  · next u _ _ =>
    have evaluated := s.beginReturn.moves_evaluateMarkers (A := 0) (s.beginReturn.smallMarked u 0)
    split
    · exact .same
    · generalize s.beginReturn.evaluateMarkers (s.beginReturn.smallMarked u 0) = t at evaluated ⊢
      exact .ite (.ite .same (.next (evaluated.trans ((t.moves_sendAudio u).trans .of_same))))
        (.next (evaluated.trans .of_same))
  · exact .same

theorem execProcessCueUnit_answers : Answers s (execProcessCueUnit s) := by
  refine .after s.moves_beginReturn ?_
  unfold execProcessCueUnit
  dsimp only
  split
  · next u _ _ =>
    split
    · exact .same
    · have evaluated := s.beginReturn.moves_evaluateMarkers (A := 0)
        (s.beginReturn.smallMarked u (BitVec.ofNat 32 (beNat u.payload)))
      generalize s.beginReturn.evaluateMarkers _ = t at evaluated ⊢
      exact .ite (.next (evaluated.trans .of_same)) (.next .of_same)
  · exact .same

theorem execIdleTimerExpiry_answers : Answers s (execIdleTimerExpiry s) :=
  .after s.moves_beginReturn (.ite (.next (.raise (.startStall .of_same))) .same)

end Commands

/-! ### What the directives answer -/

section Directives
variable (b : List Byte) (s : State)

theorem takeSetLink_moves : s.Moves 0 (takeSetLink b s).1 0 := by
  unfold takeSetLink
  dsimp only
  split
  · exact .refl
  · exact .startStall .of_same

/-- R23: a valid profile that is stored has 4 renditions at most. -/
theorem takeLoadProfile_moves : s.Moves 0 (takeLoadProfile b s).1 0 := by
  rcases takeLoadProfile_cases b s with same | ⟨p, -, good, stored⟩
  · rw [same]; exact .refl
  · rw [stored]
    refine ⟨fun ok => ⟨ok.law, ok.jobs, ok.records, fun q => ?_⟩, fun ok => ok,
      FaultLog.keepsRecords_of_eq rfl⟩
    rw [s.stored_profile]
    split
    · intro valid
      obtain ⟨-, few, -⟩ := good valid
      exact few
    · exact ok.counts q

theorem takeReadProfile_moves : s.Moves 0 (takeReadProfile b s).1 0 := by
  unfold takeReadProfile; split <;> exact .refl

theorem takeReadWindow_moves : s.Moves 0 (takeReadWindow b s).1 0 := by
  unfold takeReadWindow; split <;> exact .refl

theorem takeReadMarker_moves : s.Moves 0 (takeReadMarker b s).1 0 := by
  unfold takeReadMarker; split <;> exact .refl

theorem takeQueryChannel_moves : s.Moves 0 (takeQueryChannel b s).1 0 := by
  unfold takeQueryChannel; split <;> exact .refl

theorem takeLoadWindow_moves : s.Moves 0 (takeLoadWindow b s).1 0 := by
  unfold takeLoadWindow
  split
  · exact .refl
  · split
    · exact .refl
    · exact .of_same

theorem takeLoadMarker_moves : s.Moves 0 (takeLoadMarker b s).1 0 := by
  unfold takeLoadMarker
  split
  · exact .refl
  · split
    · exact .refl
    · exact .of_same

theorem takeOpen_moves : s.Moves 0 (takeOpen b s).1 0 := by
  unfold takeOpen
  split
  · exact .refl
  · exact .refl
  · split
    · exact .refl
    · next ch _ _ closed =>
      have closed : (s.channel ch).state = .closed := by simpa using closed
      dsimp only
      split
      · exact .refl
      · next p _ =>
        split
        · exact .refl
        · next valid =>
          have valid : s.profiles[p].valid = true := by simpa using valid
          split
          · exact .refl
          · next room => exact s.moves_openWith _ _ closed valid (not_lt.1 room)

theorem takeClose_moves : s.Moves 0 (takeClose b s).1 0 := by
  unfold takeClose
  split
  · exact .refl
  · split
    · exact .refl
    · exact .refl
    · exact .refl
    · exact s.moves_withoutPartial rfl rfl nofun

theorem takeAbort_moves : s.Moves 0 (takeAbort b s).1 0 := by
  cases hch : objectNumber 32 (bodyNat b 0 1) with
  | none => rw [takeAbort_of_badChannel hch]; exact .refl
  | some ch =>
    have aborted := (s.moves_abortWork (A := 0) ch).trans (State.moves_finishAbort _ ch)
    cases hs : (s.channel ch).state with
    | closed => rw [takeAbort_of_closed hch hs]; exact .refl
    | aborting => rw [takeAbort_of_aborting hch hs]; exact .refl
    | running => rw [takeAbort_of_live hch (.inl hs)]; exact aborted
    | draining => rw [takeAbort_of_live hch (.inr hs)]; exact aborted

theorem State.moves_resume : s.Moves 0 s.resume 0 := .startStall .of_same

theorem takeHold_moves : s.Moves 0 (takeHold b s).1 0 := by
  have entered (wait : Nat) (egressEmpty : Bool) :
      s.Moves 0 (s.enterHold wait egressEmpty).1 0 := by
    unfold State.enterHold
    dsimp only
    split
    · exact .decideHold .of_same
    · split
      · exact .startStall .of_same
      · exact .of_same
  unfold takeHold
  split
  · exact .refl
  · split
    · exact .refl
    · split
      · exact .refl
      · exact entered _ _

theorem takeRelease_moves : s.Moves 0 (takeRelease b s).1 0 := by
  unfold takeRelease
  split
  · exact .refl
  · exact s.moves_resume
  · exact s.moves_resume

end Directives

/-- R135 to R137 and R144: the admission of a directive frame keeps the frame store. -/
theorem State.admitDirective_moves (s : State) (f : DirectiveFrame) :
    ∃ u : State, s.Moves 0 u 0 ∧ (s.beginReturn.admitDirective f = .ended u
      ∨ s.beginReturn.admitDirective f = .admitted u) := by
  rcases s.beginReturn.admitDirective_cases f with failed | ⟨i, -, outcome⟩
  · exact ⟨_, s.moves_beginReturn.trans (State.moves_headerFailure _), .inl failed⟩
  · exact ⟨_, s.moves_beginReturn.trans .of_same, outcome⟩

theorem Answers.of_admission {s : State} {f : DirectiveFrame} {g : State → State}
    (h : ∀ u : State, u.Moves 0 (g u) 0) :
    Answers s (match s.beginReturn.admitDirective f with
      | .ended t => .next t
      | .admitted t => .next (g t)) := by
  obtain ⟨u, moves, ended | admitted⟩ := s.admitDirective_moves f
  · rw [ended]; exact .next moves
  · rw [admitted]; exact .next (moves.trans (h u))

/-- What holds for a directive's own rule holds for its frame's command. -/
theorem runDirective_answers {act : List Byte → State → State × Answer}
    (h : ∀ (b : List Byte) (u : State), u.Moves 0 (act b u).1 0) (code : Byte) (n : Nat)
    (f : DirectiveFrame) (s : State) : Answers s (runDirective code n act f s) := by
  refine Answers.of_admission (g := fun u => u.takeDirective code n act f) fun u => ?_
  unfold State.takeDirective
  split
  · exact .of_same
  · exact (h f.payload.bytes u).trans (.raiseAll .of_same)

theorem execUnknownDirective_answers (code : Byte) (f : DirectiveFrame) (s : State) :
    Answers s (execUnknownDirective code f s) :=
  .ite .same (.of_admission fun _ => .of_same)

/-- Every command but CLEAR FAULT LOG and power-on reset. -/
theorem exec_answers {c : Instr} (reset : c ≠ .powerOnReset) (clear : ∀ f, c ≠ .clearFaultLog f)
    (s : State) : Answers s (exec c s) := by
  cases c with
  | setLink f => exact runDirective_answers takeSetLink_moves _ _ f s
  | queryPart f => exact runDirective_answers (fun _ _ => .refl) _ _ f s
  | loadProfile f => exact runDirective_answers takeLoadProfile_moves _ _ f s
  | readProfile f => exact runDirective_answers takeReadProfile_moves _ _ f s
  | loadWindow f => exact runDirective_answers takeLoadWindow_moves _ _ f s
  | readWindow f => exact runDirective_answers takeReadWindow_moves _ _ f s
  | loadMarker f => exact runDirective_answers takeLoadMarker_moves _ _ f s
  | readMarker f => exact runDirective_answers takeReadMarker_moves _ _ f s
  | clearMatch f => exact runDirective_answers (fun _ _ => .of_same) _ _ f s
  | openChannel f => exact runDirective_answers takeOpen_moves _ _ f s
  | closeChannel f => exact runDirective_answers takeClose_moves _ _ f s
  | abortChannel f => exact runDirective_answers takeAbort_moves _ _ f s
  | queryChannel f => exact runDirective_answers takeQueryChannel_moves _ _ f s
  | readFaultLog f => exact runDirective_answers (fun _ _ => .refl) _ _ f s
  | clearFaultLog f => exact absurd rfl (clear f)
  | hold f => exact runDirective_answers takeHold_moves _ _ f s
  | release f => exact runDirective_answers takeRelease_moves _ _ f s
  | restart f => exact runDirective_answers (fun _ u => u.moves_restart) _ _ f s
  | unknownDirective code f => exact execUnknownDirective_answers code f s
  | pictureStartFrame p f => exact execPictureStartFrame_answers s p f
  | pictureContinuationFrame p f => exact execPictureContinuationFrame_answers s p f
  | smallUnitFrame k p f => exact execSmallUnitFrame_answers s k p f
  | headerCheckFailure header => exact execHeaderCheckFailure_answers s header
  | ingestLinkUp => exact execIngestLinkUp_answers s
  | ingestLinkDown n => exact execIngestLinkDown_answers s n
  | pictureCreditGrant => exact execPictureCreditGrant_answers s
  | smallCreditGrant => exact execSmallCreditGrant_answers s
  | directiveCreditGrant => exact execDirectiveCreditGrant_answers s
  | creditFrameSent => exact execCreditFrameSent_answers s
  | reportFrameSent => exact execReportFrameSent_answers s
  | egressCredit f => exact execEgressCredit_answers s f
  | egressLinkUp => exact execEgressLinkUp_answers s
  | egressLinkDown => exact execEgressLinkDown_answers s
  | egressRead o => exact execEgressRead_answers s o
  | egressFrameBegin => exact execEgressFrameBegin_answers s
  | egressFrameSent => exact execEgressFrameSent_answers s
  | stallTimerExpiry => exact execStallTimerExpiry_answers s
  | decodeDispatch => exact execDecodeDispatch_answers s
  | decodeCompletion e o d => exact execDecodeCompletion_answers s e o d
  | takeHeldPicture => exact execTakeHeldPicture_answers s
  | engineDispatch => exact execEngineDispatch_answers s
  | skipCompletion ch r => exact execSkipCompletion_answers s ch r
  | encodeCompletion e r => exact execEncodeCompletion_answers s e r
  | segmentRecord ch => exact execSegmentRecord_answers s ch
  | finalSegmentClose ch => exact execFinalSegmentClose_answers s ch
  | drainCompletion ch => exact execDrainCompletion_answers s ch
  | abortCompletion ch => exact execAbortCompletion_answers s ch
  | processCueUnit => exact execProcessCueUnit_answers s
  | processAudioUnit => exact execProcessAudioUnit_answers s
  | idleTimerExpiry => exact execIdleTimerExpiry_answers s
  | powerOnReset => exact absurd rfl reset
  | encodeEngineRead e r o => exact execEncodeEngineRead_answers s e r o
  | unitKindNoneFrame p f => exact execUnitKindNoneFrame_answers s p f

/-! ### Every command -/

/-- A command answers a next state with the invariant of the slot pool and the engine reserve, or it
stops while the reserve does not hold. -/
def KeepsStore (s : State) : Host.Outcome State Fault Refusal → Prop
  | .next t => (s.StoreOk 0 → t.StoreOk 0) ∧ (s.EngineReserve → t.EngineReserve)
  | .fault _ => ¬ s.EngineReserve
  | .refused _ => False

theorem Answers.keepsStore {s : State} {o : Host.Outcome State Fault Refusal} (h : Answers s o) :
    KeepsStore s o := by
  cases o with
  | next t => exact ⟨State.Moves.store h, State.Moves.reserve h⟩
  | fault r => exact h
  | refused r => exact h

/-- R103: the fault log holds no slot. -/
theorem State.storeOk_withFaults {s : State} {A : Multiset (SlotId × SlotState)} (ok : s.StoreOk A)
    (l : FaultLog) : State.StoreOk { s with faults := l } A :=
  ⟨ok.law, ok.jobs, ok.records, ok.counts⟩

theorem exec_clearFaultLog_keepsStore (f : DirectiveFrame) (s : State) :
    KeepsStore s (exec (.clearFaultLog f) s) := by
  obtain ⟨u, moves, ended | admitted⟩ := s.admitDirective_moves f
  · have answer : exec (.clearFaultLog f) s = .next u := by
      show runDirective codeClearFaultLog 4 takeClearFaultLog f s = _
      rw [runDirective, ended]
    rw [answer]
    exact Answers.keepsStore moves
  · have answer : exec (.clearFaultLog f) s =
        .next (u.takeDirective codeClearFaultLog 4 takeClearFaultLog f) := by
      show runDirective codeClearFaultLog 4 takeClearFaultLog f s = _
      rw [runDirective, admitted]
    rw [answer]
    unfold State.takeDirective
    split
    · exact Answers.keepsStore (moves.trans .of_same)
    · have replied : State.Moves { u with faults := FaultLog.empty } 0
          ((State.reply { u with faults := FaultLog.empty } f.tag codeClearFaultLog .done
            .none).raiseAll []) 0 := .raiseAll .of_same
      exact ⟨fun ok => replied.store (State.storeOk_withFaults (moves.store ok) _),
        fun ok => replied.reserve (moves.reserve ok)⟩

theorem exec_keepsStore (c : Instr) (s : State) : KeepsStore s (exec c s) := by
  by_cases reset : c = .powerOnReset
  · subst reset
    refine ⟨fun _ => State.storeOk_of_cleared rfl rfl rfl rfl fun p valid => ?_,
      fun _ => State.engineReserve_of_cleared rfl rfl⟩
    simp [State.reset, Profile.zero] at valid
  · by_cases clear : ∃ f, c = .clearFaultLog f
    · obtain ⟨f, rfl⟩ := clear
      exact exec_clearFaultLog_keepsStore f s
    · exact (exec_answers reset (fun f h => clear ⟨f, h⟩) s).keepsStore

/-- The commands that wait hold no slot. -/
theorem step_keepsStore (s : State) : KeepsStore s (step s) := by
  unfold step
  split
  · exact Answers.same.keepsStore
  · next c rest _ =>
    have waiting : s.Moves 0 { s with pending := rest } 0 := .of_same
    have kept := exec_keepsStore c { s with pending := rest }
    generalize exec c { s with pending := rest } = o at kept ⊢
    cases o with
    | next t =>
      obtain ⟨store, reserve⟩ := kept
      exact ⟨fun ok => store (waiting.store ok), fun ok => reserve (waiting.reserve ok)⟩
    | fault r => exact fun ok => kept (waiting.reserve ok)
    | refused r => exact kept

/-! ### The statements (chapter 6) -/

/-- Settles O6: the pool's law is the ledger of `State.StoreOk` with nothing held aside. -/
theorem engineReserveKept : Obligations.EngineReserveKept := by
  refine ⟨fun s t ok h => ?_, fun s t inRange ok h => ?_⟩
  · have kept := step_keepsStore s
    rw [h] at kept
    obtain ⟨-, reserve⟩ := kept
    exact reserve ok
  · have kept := step_keepsStore s
    rw [h] at kept
    obtain ⟨store, -⟩ := kept
    exact (store (ok.storeOk inRange)).slotsOk

/-- Settles O7: the one fault contradicts the reserve by `State.EngineReserve.free_ne_nil`. -/
theorem noStepStops : Obligations.NoStepStops := by
  intro s ok
  have kept := step_keepsStore s
  generalize step s = o at kept
  cases o with
  | next t => exact ⟨t, rfl⟩
  | fault r => exact absurd ok kept
  | refused r => exact kept.elim

/-- Settles O47: the reports of reads case by case, and the freeze over every command. -/
theorem faultLogRecordsReads : Obligations.FaultLogRecordsReads := by
  refine ⟨fun s r => ⟨rfl, ?_, fun empty => ?_, fun filled => ?_⟩,
    fun c s t h filled reset clear => ?_⟩
  · have soft : (if s.faults.hard.isNone = true then some r else s.faults.soft) =
        if s.faults.hard = none then some r else s.faults.soft :=
      if_congr Option.isNone_iff_eq_none rfl rfl
    rw [← soft]
    rfl
  · simp only [State.reportRead, FaultLog.logUncorrectable, empty]
    rfl
  · obtain ⟨x, hard⟩ := Option.ne_none_iff_exists'.1 filled
    simp only [State.reportRead, FaultLog.logUncorrectable, hard]
    rfl
  · have answered := exec_answers reset clear s
    rw [h] at answered
    exact State.Moves.log answered filled

/-! ### The reads of an encode engine (R82, R97) -/

theorem exec_encodeEngineRead_of_idle {s : State} {e : EncodeEngineId}
    (idle : s.encode[e] = .idle) (r : EngineRead) (o : ReadOutcome) :
    exec (.encodeEngineRead e r o) s = .next s.beginReturn := by
  simp only [exec, execEncodeEngineRead, State.beginReturn_encode, idle]

/-- R97: what an engine on which a job runs does with a read. -/
theorem exec_encodeEngineRead_of_running {s : State} {e : EncodeEngineId}
    {sourceRead referenceRead : Option ReadOutcome} {i : Nat} {j : Job} {record : DispatchRecord}
    {abandoned : Bool} (busy : s.encode[e] = .busy sourceRead referenceRead)
    (found : runningOn s.jobs e = some (i, j, record, abandoned)) (r : EngineRead)
    (o : ReadOutcome) :
    exec (.encodeEngineRead e r o) s =
      (nextReads record.key sourceRead referenceRead r o).elim (.next s.beginReturn) fun engine =>
        .next { s.beginReturn.reportRead o (s.engineFaultRecord j r) with
          encode := s.encode.set e engine } := by
  have same : s.beginReturn.engineFaultRecord j r = s.engineFaultRecord j r := by
    simp only [State.engineFaultRecord, State.beginReturn_channel]
  simp only [exec, execEncodeEngineRead, State.beginReturn_encode, State.beginReturn_jobs, busy,
    found, same, State.reportRead_encode]
  cases nextReads record.key sourceRead referenceRead r o <;> rfl

/-- Settles O56: the engine's job is the one that `runningOn_eq_some` finds. -/
theorem encodeEngineReads : Obligations.EncodeEngineReads := by
  intro s e
  refine ⟨exec_encodeEngineRead_of_idle, ?_⟩
  intro i j record abandoned sourceRead referenceRead r ctx src busy hj hs named only hr hctx hsrc
    u logged o
  subst named
  have read := exec_encodeEngineRead_of_running busy (runningOn_eq_some hj hs only)
  have source : s.engineFaultRecord j .source =
      { source := .encodeSource, channel := j.channel, rendition := some r.val,
        slot := some src.slot } := by
    rw [State.engineFaultRecord, hsrc, hr]; rfl
  have reference : s.engineFaultRecord j .reference =
      { source := .encodeReference, channel := j.channel, rendition := some r.val,
        slot := some ctx.reference } := by
    rw [State.engineFaultRecord, hr, hctx]; rfl
  refine ⟨fun first => ?_, fun first key => ?_, fun again => ?_, fun not_made => ?_⟩
  · rw [read, source, first]; rfl
  · rw [read, reference, first, key]; rfl
  · obtain ⟨x, made⟩ := Option.ne_none_iff_exists'.1 again
    rw [read, made]; rfl
  · have none_made : (referenceRead.isSome || record.key) = true := by
      rcases not_made with again | key
      · rw [Option.isSome_iff_ne_none.2 again, Bool.true_or]
      · rw [key, Bool.or_true]
    rw [read, nextReads, if_pos none_made]; rfl

end Sys2Proof.Machine

/-! SUPPORT. Decoding (chapter 7): which engine and which entry a dispatch joins, then what a
decode's completion decides and writes, each followed by its statement. -/

namespace Sys2Proof.Machine

/-! ### The dispatch of a decode (R107) -/

theorem State.idleDecodeEngine_eq_some {s : State} {e : DecodeEngineId}
    (idle : s.decode.engines[e] = .idle)
    (first : ∀ g : DecodeEngineId, g < e → s.decode.engines[g] ≠ .idle) :
    s.idleDecodeEngine = some e := by
  rw [idleDecodeEngine, ← Fin.find?_eq_find?_finRange, Fin.find?_eq_some_iff]
  exact ⟨beq_iff_eq.2 idle, fun g hg => beq_eq_false_iff_ne.2 (first g hg)⟩

theorem State.idleDecodeEngine_eq_none {s : State}
    (busy : ∀ e : DecodeEngineId, s.decode.engines[e] ≠ .idle) : s.idleDecodeEngine = none := by
  rw [idleDecodeEngine, ← Fin.find?_eq_find?_finRange, Fin.find?_eq_none_iff]
  exact fun e => beq_eq_false_iff_ne.2 (busy e)

@[simp] theorem State.beginReturn_idleDecodeEngine (s : State) :
    s.beginReturn.idleDecodeEngine = s.idleDecodeEngine := by
  simp only [idleDecodeEngine, s.beginReturn_decode]

@[simp] theorem State.beginReturn_decodeReady (s : State) :
    s.beginReturn.decodeReady = s.decodeReady := by
  funext d
  simp only [decodeReady, s.beginReturn_channel]

theorem State.decodeReady_iff (s : State) (d : DecodeEntry) :
    s.decodeReady d = true ↔ (s.channel d.channel).decodeInFlight = false := by
  rw [decodeReady, Bool.not_eq_true']

theorem State.not_decodeReady_iff (s : State) (d : DecodeEntry) :
    s.decodeReady d = false ↔ (s.channel d.channel).decodeInFlight = true := by
  rw [decodeReady, Bool.not_eq_false']

/-- R107: the start of the oldest startable picture. -/
theorem exec_decodeDispatch_of_startable {s : State} {e : DecodeEngineId} {d : DecodeEntry}
    (running : s.hold.part = .running) (idle : s.idleDecodeEngine = some e)
    (found : s.decode.queue.find? s.decodeReady = some d) :
    exec .decodeDispatch s = .next (s.beginReturn.startDecode e d) := by
  simp only [exec, execDecodeDispatch, State.beginReturn_hold, State.beginReturn_idleDecodeEngine,
    State.beginReturn_decode, State.beginReturn_decodeReady, running, idle, found]

theorem exec_decodeDispatch_of_not_startable {s : State}
    (h : s.hold.part ≠ .running ∨ s.idleDecodeEngine = none
      ∨ s.decode.queue.find? s.decodeReady = none) :
    exec .decodeDispatch s = .next s.beginReturn := by
  simp only [exec, execDecodeDispatch, State.beginReturn_hold, State.beginReturn_idleDecodeEngine,
    State.beginReturn_decode, State.beginReturn_decodeReady]
  split
  · next running idle found => simp [running, idle, found] at h
  · rfl

/-- R107: the slot, the channel, the queue and the engine that a start writes. -/
theorem State.startDecode_eq (s : State) (e : DecodeEngineId) (d : DecodeEntry) :
    s.startDecode e d = { s with
      pool := s.pool.mark d.slot .decoding
      channels := s.channels.set d.channel { s.channel d.channel with decodeInFlight := true }
      decode := { s.decode with
        queue := s.decode.queue.eraseP s.decodeReady
        engines := s.decode.engines.set e (.decoding d false) } } := rfl

/-- Settles O51: the queue splits at the first entry whose channel has no decode in flight. -/
theorem decodeDispatchStartsTheOldest : Obligations.DecodeDispatchStartsTheOldest := by
  intro s
  refine ⟨fun e older d younger running idle first parts waits startable => ?_, fun h => ?_⟩
  · have ready := (s.decodeReady_iff d).2 startable
    have unready (x) (hx : x ∈ older) := (s.not_decodeReady_iff x).2 (waits x hx)
    have found : s.decode.queue.find? s.decodeReady = some d :=
      List.find?_eq_some_iff_append.2
        ⟨ready, older, younger, parts, fun x hx => by rw [unready x hx]; rfl⟩
    have left : s.decode.queue.eraseP s.decodeReady = older ++ younger := by
      rw [parts, List.eraseP_append_right _ fun x hx => Bool.eq_false_iff.1 (unready x hx),
        List.eraseP_cons_of_pos ready]
    rw [exec_decodeDispatch_of_startable running (State.idleDecodeEngine_eq_some idle first) found,
      State.startDecode_eq]
    simp only [State.beginReturn_pool, State.beginReturn_channels, State.beginReturn_channel,
      State.beginReturn_decode, State.beginReturn_decodeReady, left]
  · refine exec_decodeDispatch_of_not_startable
      (h.imp_right (Or.imp State.idleDecodeEngine_eq_none fun waits => ?_))
    exact List.find?_eq_none.2 fun x hx =>
      Bool.eq_false_iff.1 ((s.not_decodeReady_iff x).2 (waits x hx))

/-! ### The header and the outcome of a decode (R108) -/

theorem mezzaninePasses_iff (bytes : List Byte) :
    mezzaninePasses bytes = true ↔ 16 ≤ bytes.length
      ∧ 160 ≤ mezzanineWidth bytes ∧ mezzanineWidth bytes ≤ 1920
      ∧ 96 ≤ mezzanineHeight bytes ∧ mezzanineHeight bytes ≤ 1080
      ∧ 1 ≤ mezzanineLength bytes ∧ mezzanineLength bytes ≤ bytes.length - 16 := by
  simp only [mezzaninePasses, Bool.and_eq_true, decide_eq_true_eq, and_assoc]

theorem decodeOk_iff (bytes : List Byte) (o : ReadOutcome) (decodable : Bool) :
    decodeOk bytes o decodable = true ↔
      mezzaninePasses bytes = true ∧ o ≠ .uncorrectable ∧ decodable = true := by
  simp only [decodeOk, Bool.and_eq_true, bne_iff_ne, and_assoc, and_left_comm]

/-- R95: a write of a picture area leaves the compressed bytes of every slot. -/
@[simp] theorem SlotPool.draw_compressed (p : SlotPool) (i j : SlotId) (area : PictureArea) :
    ((p.draw i area).slots[j]).compressed = (p.slots[j]).compressed := by
  simp only [SlotPool.draw, SlotPool.getElem_put]
  by_cases h : j = i
  · subst h; simp
  · simp [h]

@[simp] theorem State.drawDecoded_compressed (s : State) (d : DecodeEntry) (good : Bool)
    (i : SlotId) :
    ((s.drawDecoded d good).pool.slots[i]).compressed = (s.pool.slots[i]).compressed := by
  unfold drawDecoded
  dsimp only
  split
  · exact s.pool.draw_compressed d.slot i _
  · rfl

/-- R108 to R111: what is decided on a completion, once its read is reported and its picture area
written. -/
theorem exec_decodeCompletion_of_decoding {s : State} {e : DecodeEngineId} {d : DecodeEntry}
    {abandoned : Bool} (busy : s.decode.engines[e] = .decoding d abandoned) {o : ReadOutcome}
    {decodable good : Bool} (outcome : decodeOk s.pool.slots[d.slot].compressed o decodable = good)
    {read : State}
    (drawn : (s.beginReturn.reportRead o d.faultRecord).drawDecoded d good = read) :
    exec (.decodeCompletion e o decodable) s =
      if ((s.channel d.channel).state = .running ∨ (s.channel d.channel).state = .draining)
          ∧ abandoned = false then .next (read.finishDecode e d good).settleHold
      else .next (read.abandonDecode e d).settleHold := by
  have channel : read.channel d.channel = s.channel d.channel :=
    State.channel_congr (by rw [← drawn]; simp) d.channel
  simp only [exec, execDecodeCompletion, State.beginReturn_decode, State.beginReturn_pool, busy,
    outcome, drawn, channel, Bool.and_eq_true, Bool.not_eq_true', Channel.isLive_iff]

/-! ### Handing a picture over (R37, R109, R110) -/

namespace State
variable {s : State} {e : DecodeEngineId} {d : DecodeEntry} {pic : DecodedPicture}

theorem jobRoomFor_iff (s : State) (ch : ChannelId) :
    s.jobRoomFor ch = true ↔ s.jobs.length + s.profiles[(s.channel ch).profile].count ≤ 256 :=
  decide_eq_true_iff

theorem handOver_of_early (concealed : pic.source = none)
    (early : (s.channel pic.channel).firstGood = false) :
    s.handOver e pic = ((s.dropConcealed pic).clearDecode pic.channel).setDecodeEngine e .idle := by
  rw [handOver, concealed, early]; rfl

theorem handOver_of_due
    (due : pic.source.isSome = true ∨ (s.channel pic.channel).firstGood = true) :
    s.handOver e pic = if s.jobRoomFor pic.channel = true then
        ((s.takePicture pic).clearDecode pic.channel).setDecodeEngine e .idle
      else s.holdPicture e pic := by
  have kept : ¬ (pic.source.isNone && !(s.channel pic.channel).firstGood) = true := by
    rcases due with good | seen
    · rw [Option.isNone_eq_false_iff.2 good]; exact Bool.false_ne_true
    · rw [seen, Bool.not_true, Bool.and_false]; exact Bool.false_ne_true
  exact if_neg kept

theorem conceal_eq (s : State) (d : DecodeEntry) :
    s.conceal d = { s with
      pool := s.pool.release d.slot
      channels := s.channels.set d.channel { s.channel d.channel with
        counters := { (s.channel d.channel).counters with
          picturesConcealed :=
            min 4294967295 ((s.channel d.channel).counters.picturesConcealed + 1) } } } := rfl

theorem jobRoomFor_congr {t : State} {ch : ChannelId} (jobs : t.jobs = s.jobs)
    (profiles : t.profiles = s.profiles)
    (profile : (t.channel ch).profile = (s.channel ch).profile) :
    t.jobRoomFor ch = s.jobRoomFor ch := by
  have same : t.profileOf ch = s.profileOf ch := by
    unfold channel at profile
    simp only [profileOf, profiles, profile]
  rw [jobRoomFor, same, jobs]
  rfl

/-- Counting a concealed picture leaves what decides how the picture is handed over. -/
theorem conceal_firstGood (s : State) (d : DecodeEntry) :
    ((s.conceal d).channel d.channel).firstGood = (s.channel d.channel).firstGood := by
  rw [conceal, count, channel_modChannel, if_pos rfl]; rfl

theorem conceal_jobRoomFor (s : State) (d : DecodeEntry) :
    (s.conceal d).jobRoomFor d.channel = s.jobRoomFor d.channel :=
  jobRoomFor_congr rfl rfl (by rw [conceal, count, channel_modChannel, if_pos rfl]; rfl)

/-- R106: a decode's engine and channel once its picture has left the engine. -/
theorem setDecodeEngine_idle_eq (s : State) (ch : ChannelId) (e : DecodeEngineId) :
    (s.clearDecode ch).setDecodeEngine e .idle = { s with
      channels := s.channels.set ch { s.channel ch with decodeInFlight := false }
      decode := { s.decode with engines := s.decode.engines.set e .idle } } := rfl

/-- R109: a good picture is taken or held. -/
theorem finishDecode_good (s : State) (e : DecodeEngineId) (d : DecodeEntry) :
    s.finishDecode e d true = if s.jobRoomFor d.channel = true then
        ((s.takePicture (d.picture s.pool.slots[d.slot].compressed true)).clearDecode
          d.channel).setDecodeEngine e .idle
      else s.holdPicture e (d.picture s.pool.slots[d.slot].compressed true) :=
  handOver_of_due (pic := d.picture _ true) (.inl rfl)

/-- R37: a failed picture before the first good one is dropped. -/
theorem finishDecode_failed_early (early : (s.channel d.channel).firstGood = false) :
    s.finishDecode e d false =
      (((s.conceal d).dropConcealed (d.picture s.pool.slots[d.slot].compressed false)).clearDecode
        d.channel).setDecodeEngine e .idle :=
  handOver_of_early (s := s.conceal d) (pic := d.picture _ false) rfl
    ((s.conceal_firstGood d).trans early)

/-- R109: any other failed picture is taken or held. -/
theorem finishDecode_failed_due (seen : (s.channel d.channel).firstGood = true) :
    s.finishDecode e d false = if s.jobRoomFor d.channel = true then
        (((s.conceal d).takePicture (d.picture s.pool.slots[d.slot].compressed false)).clearDecode
          d.channel).setDecodeEngine e .idle
      else (s.conceal d).holdPicture e (d.picture s.pool.slots[d.slot].compressed false) := by
  rw [← s.conceal_jobRoomFor d]
  exact handOver_of_due (s := s.conceal d) (pic := d.picture _ false)
    (.inr ((s.conceal_firstGood d).trans seen))

end State

/-- Settles O52: `read` is the state once the read is reported and the picture area written; the
cases are those of `State.handOver`. -/
theorem decodeCompletes : Obligations.DecodeCompletes := by
  intro s e o decodable d abandoned busy bytes width height coded header good logged read live room
    done held goodPicture concealedPicture concealed
  have passes : mezzaninePasses bytes = true ↔ header := mezzaninePasses_iff bytes
  have ok : decodeOk bytes o decodable = true ↔ good :=
    (decodeOk_iff bytes o decodable).trans (and_congr_left' passes)
  have logged_pool : logged.pool = s.pool := by simp [logged]
  have logged_serial : logged.freeSerial = s.freeSerial := by simp [logged]
  have drawn : logged.drawDecoded d (decodeOk bytes o decodable) = read := by
    simp only [State.drawDecoded, SlotPool.draw, SlotPool.put, logged_pool, logged_serial]
    exact if_congr passes (by rw [if_congr ok rfl rfl]; rfl) rfl
  have channels : read.channels = s.channels := by rw [← drawn]; simp [logged]
  have channel : read.channel d.channel = s.channel d.channel :=
    State.channel_congr channels d.channel
  have compressed : read.pool.slots[d.slot].compressed = bytes := by
    rw [← drawn, State.drawDecoded_compressed, logged_pool]
  have fits : read.jobRoomFor d.channel = true ↔ room := by
    have same : read.jobRoomFor d.channel = s.jobRoomFor d.channel :=
      State.jobRoomFor_congr (by rw [← drawn]; simp [logged]) (by rw [← drawn]; simp [logged])
        (by rw [channel])
    rw [same, s.jobRoomFor_iff]
  have counted : read.conceal d = concealed := by
    rw [State.conceal_eq, channels, channel]
  have completed := exec_decodeCompletion_of_decoding busy rfl drawn
  have finished {b : Bool} (hl : live) (outcome : decodeOk bytes o decodable = b) :
      exec (.decodeCompletion e o decodable) s = .next (read.finishDecode e d b).settleHold := by
    rw [completed, if_pos hl, ← outcome]
  have good_end (hl : live) (hg : good) := finished hl (ok.2 hg)
  have failed_end (hl : live) (hg : ¬ good) := finished hl (Bool.eq_false_iff.2 (mt ok.1 hg))
  have good_picture : d.picture bytes true = goodPicture := rfl
  have concealed_picture : d.picture bytes false = concealedPicture := rfl
  clear_value read
  refine ⟨fun hl => ?_, fun hl hg hr => ?_, fun hl hg hr => ?_, fun hl hg early => ?_,
    fun hl hg seen hr => ?_, fun hl hg seen hr => ?_⟩
  · rw [completed, if_neg hl]; rfl
  · rw [good_end hl hg, State.finishDecode_good, compressed, if_pos (fits.2 hr),
      State.setDecodeEngine_idle_eq, good_picture]
  · rw [good_end hl hg, State.finishDecode_good, compressed, if_neg (mt fits.1 hr)]; rfl
  · rw [failed_end hl hg, State.finishDecode_failed_early (channel ▸ early), counted]; rfl
  · rw [failed_end hl hg, State.finishDecode_failed_due (channel ▸ seen), compressed,
      if_pos (fits.2 hr), counted, State.setDecodeEngine_idle_eq, concealed_picture]
  · rw [failed_end hl hg, State.finishDecode_failed_due (channel ▸ seen), compressed,
      if_neg (mt fits.1 hr), counted]; rfl

end Sys2Proof.Machine

/-! SUPPORT. The audio path (chapter 8): what the leveller makes of a sample, a unit and itself, then
what becomes of the unit at the head of the small-unit buffer, each followed by its statement. -/

namespace Sys2Proof.Machine

/-! ### A levelled sample (R118) -/

/-- R118: the rounded quotient, as a floor. -/
theorem scaled_spec (g : Nat) (x : BitVec 16) :
    4096 * scaled g x ≤ x.toInt * (g : Int) + 2048
      ∧ x.toInt * (g : Int) + 2048 < 4096 * (scaled g x + 1) := by
  rw [scaled, Int.fdiv_eq_ediv_of_nonneg _ (by decide)]
  generalize x.toInt * (g : Int) + 2048 = v
  omega

theorem clampSample_eq_clampInt (y : Int) : clampSample y = clampInt y (-32768) 32767 := rfl

theorem clampSample_mem (y : Int) : -32768 ≤ clampSample y ∧ clampSample y ≤ 32767 :=
  ⟨le_clampInt, clampInt_le (by decide)⟩

theorem natAbs_clampSample_le (y : Int) : (clampSample y).natAbs ≤ 32768 := by
  have limits := clampSample_mem y
  omega

/-- The limited value fits into the 16 bits that hold it. -/
theorem toInt_levelSample (g : Nat) (x : BitVec 16) :
    (levelSample g x).toInt = clampSample (scaled g x) := by
  obtain ⟨low, high⟩ := clampSample_mem (scaled g x)
  exact BitVec.toInt_ofInt_eq_self (by decide) low (Int.lt_add_one_of_le high)

theorem clampSample_eq_self_iff (y : Int) : clampSample y = y ↔ -32768 ≤ y ∧ y ≤ 32767 := by
  refine ⟨fun same => same ▸ clampSample_mem y, fun ⟨low, high⟩ => ?_⟩
  rw [clampSample_eq_clampInt, clampInt_of_mem low high]

/-- R118: a sample is limited when the value to be divided is beyond 16 bits of quotient. -/
theorem clamped_iff (g : Nat) (x : BitVec 16) :
    clampSample (scaled g x) ≠ scaled g x ↔
      x.toInt * (g : Int) + 2048 < -32768 * 4096 ∨ 32768 * 4096 ≤ x.toInt * (g : Int) + 2048 := by
  obtain ⟨below, above⟩ := scaled_spec g x
  rw [Ne, clampSample_eq_self_iff]
  generalize x.toInt * (g : Int) + 2048 = v at below above ⊢
  omega

theorem clippedCount_eq (g : Nat) (samples : List (BitVec 16)) :
    clippedCount g samples = (samples.filter (fun x =>
      decide (x.toInt * (g : Int) + 2048 < -32768 * 4096)
        || decide (32768 * 4096 ≤ x.toInt * (g : Int) + 2048))).length := by
  refine congrArg List.length (List.filter_congr fun x _ => ?_)
  rw [Bool.eq_iff_iff, bne_iff_ne, clamped_iff, Bool.or_eq_true, decide_eq_true_iff,
    decide_eq_true_iff]

/-! ### The peak of a levelled unit (R119) -/

section RunningMaximum
variable {α : Type} {f : α → Nat} {l : List α}

theorem foldl_max_le_iff {b : Nat} : ∀ {start : Nat},
    l.foldl (fun m x => max m (f x)) start ≤ b ↔ start ≤ b ∧ ∀ x ∈ l, f x ≤ b := by
  induction l with
  | nil => simp
  | cons x l ih =>
    intro start
    rw [List.foldl_cons, ih, max_le_iff, List.forall_mem_cons, and_assoc]

theorem foldl_max_attained : ∀ {start : Nat},
    l.foldl (fun m x => max m (f x)) start = start
      ∨ ∃ x ∈ l, f x = l.foldl (fun m x => max m (f x)) start := by
  induction l with
  | nil => exact .inl rfl
  | cons x l ih =>
    intro start
    rw [List.foldl_cons]
    rcases ih (start := max start (f x)) with same | ⟨y, hy, attained⟩
    · rcases max_choice start (f x) with left | right
      · exact .inl (same.trans left)
      · exact .inr ⟨x, List.mem_cons_self, (same.trans right).symm⟩
    · exact .inr ⟨y, List.mem_cons_of_mem x hy, attained⟩

end RunningMaximum

theorem peak_le_iff {g : Nat} {samples : List (BitVec 16)} {b : Nat} :
    peak g samples ≤ b ↔ ∀ x ∈ samples, (clampSample (scaled g x)).natAbs ≤ b :=
  foldl_max_le_iff.trans (and_iff_right (Nat.zero_le b))

theorem peak_attained {g : Nat} {samples : List (BitVec 16)} (nonempty : samples ≠ []) :
    ∃ x ∈ samples, (clampSample (scaled g x)).natAbs = peak g samples := by
  rcases foldl_max_attained (start := 0) with silent | attained
  · obtain ⟨x, hx⟩ := List.exists_mem_of_ne_nil samples nonempty
    have none_louder : (clampSample (scaled g x)).natAbs ≤ 0 := peak_le_iff.1 silent.le x hx
    exact ⟨x, hx, (Nat.le_zero.1 none_louder).trans silent.symm⟩
  · exact attained

/-! ### The adaptation (R119) -/

section Adaptation
variable {l : Leveller} {p : Profile} {loudest : Nat}

theorem Leveller.adapt_of_loud (loud : p.high < loudest) :
    l.adapt p loudest = { gain := max 256 (l.gain - l.gain / 16), quietRun := 0 } := if_pos loud

theorem Leveller.adapt_of_quiet (order : p.low < p.high) (quiet : loudest < p.low) :
    l.adapt p loudest =
      if l.quietRun + 1 < p.quietRun then { gain := l.gain, quietRun := l.quietRun + 1 }
      else { gain := min p.maximumGain (l.gain + l.gain / 32), quietRun := 0 } := by
  rw [Leveller.adapt, if_neg (quiet.trans order).not_gt, if_pos quiet]

theorem Leveller.adapt_of_between (low : p.low ≤ loudest) (high : loudest ≤ p.high) :
    l.adapt p loudest = { gain := l.gain, quietRun := 0 } := by
  rw [Leveller.adapt, if_neg high.not_gt, if_neg low.not_gt]

end Adaptation

/-- Settles O20: the floor of R118 is the witness, and the clamp's three cases and the peak's two
bounds are about it. -/
theorem audioLeveller : Obligations.AudioLeveller := by
  refine ⟨fun g samples => ⟨fun x _ => ?_, clippedCount_eq g samples⟩,
    fun g samples => ⟨fun x hx => ?_, fun nonempty => ?_, ?_⟩, fun l p loudest order =>
      ⟨Leveller.adapt_of_loud, fun quiet short => ?_, fun quiet long => ?_,
        Leveller.adapt_of_between⟩⟩
  · obtain ⟨below, above⟩ := scaled_spec g x
    rw [toInt_levelSample]
    exact ⟨scaled g x, below, above, clampInt_of_lt, clampInt_of_gt (by decide), clampInt_of_mem⟩
  · rw [toInt_levelSample]
    exact peak_le_iff.1 le_rfl x hx
  · simpa only [toInt_levelSample] using peak_attained nonempty
  · exact peak_le_iff.2 fun x _ => natAbs_clampSample_le _
  · rw [Leveller.adapt_of_quiet order quiet, if_pos short]
  · rw [Leveller.adapt_of_quiet order quiet, if_neg long.not_gt]

/-! ### What the evaluation of a unit leaves alone -/

/-- R53 to R55: of the unit's channel record the markers write the cut pending alone. -/
theorem State.evaluateMarkers_channel (s : State) (u : MarkedUnit) :
    ∃ pending, (s.evaluateMarkers u).channel u.channel =
      { s.channel u.channel with cutPending := pending } :=
  ⟨_, by rw [s.evaluateMarkers_eq, State.channel_withMarks]⟩

/-! ### The unit at the head of the buffer (R115 to R117) -/

theorem length_samplesOf (payload : List Byte) :
    (samplesOf payload).length = payload.length / 2 := by
  induction payload using samplesOf.induct with
  | case1 hi lo rest ih => simp only [samplesOf, List.length_cons, ih]; omega
  | case2 payload short =>
    rcases payload with _ | ⟨b, _ | ⟨lo, rest⟩⟩
    · rfl
    · simp [samplesOf]
    · exact absurd rfl (short b lo rest)

theorem two_mul_length_samplesOf {payload : List Byte} (even : payload.length % 2 = 0) :
    2 * (samplesOf payload).length = payload.length := by
  rw [length_samplesOf]; omega

theorem audioMalformed_eq_false_iff (payload : List Byte) :
    audioMalformed payload = false ↔
      payload.length % 2 = 0 ∧ 32 ≤ payload.length ∧ payload.length ≤ 3840 := by
  simp only [audioMalformed, Bool.or_eq_false_iff, bne_eq_false_iff_eq, decide_eq_false_iff_not,
    Nat.not_lt, and_assoc]

/-- R115 and R117: an audio unit that is sent, in the words of the statement. -/
def State.UnitSends (s : State) (u : SmallUnit) : Prop :=
  s.profiles[(s.channel u.channel).profile].audioEnabled = 1 ∧ u.payload.length % 2 = 0
    ∧ 32 ≤ u.payload.length ∧ u.payload.length ≤ 3840

theorem State.UnitSends.even {s : State} {u : SmallUnit} (h : s.UnitSends u) :
    u.payload.length % 2 = 0 := h.2.1

theorem State.profileOf_congr {s t : State} {ch : ChannelId} (profiles : t.profiles = s.profiles)
    (profile : (t.channel ch).profile = (s.channel ch).profile) :
    t.profileOf ch = s.profileOf ch := by
  rw [State.profileOf, profiles]
  exact congrArg (fun i : ProfileId => s.profiles[i]) profile

theorem State.beginReturn_profileOf (s : State) (ch : ChannelId) :
    s.beginReturn.profileOf ch = s.profileOf ch :=
  State.profileOf_congr s.beginReturn_profiles (by rw [s.beginReturn_channel])

theorem State.beginReturn_audioSends_iff (s : State) (u : SmallUnit) :
    s.beginReturn.audioSends u = true ↔ s.UnitSends u := by
  rw [State.audioSends, s.beginReturn_profileOf, Bool.and_eq_true, beq_iff_eq, Bool.not_eq_true',
    audioMalformed_eq_false_iff]
  rfl

/-- R116 and R117: a unit as the markers see it, under the kind it is evaluated as. -/
def State.marked (s : State) (u : SmallUnit) (kind : UnitKind) (code : BitVec 32) : MarkedUnit :=
  { channel := u.channel, kind := kind, time := u.timestamp - (s.channel u.channel).base.getD 0,
    flags := u.flags, code := code }

theorem State.beginReturn_smallMarked_audio {s : State} {u : SmallUnit} (audio : u.kind = .audio)
    (code : BitVec 32) : s.beginReturn.smallMarked u code = s.marked u .audio code := by
  rw [State.smallMarked, audio, s.beginReturn_channel]; rfl

theorem State.beginReturn_smallMarked_cue {s : State} {u : SmallUnit} (cue : u.kind = .cue)
    (code : BitVec 32) : s.beginReturn.smallMarked u code = s.marked u .cue code := by
  rw [State.smallMarked, cue, s.beginReturn_channel]; rfl

/-- The markers' evaluation of the head unit, after the return direction has begun its frame. -/
def State.evaluated (s : State) (u : SmallUnit) (kind : UnitKind) (code : BitVec 32) : State :=
  s.beginReturn.evaluateMarkers (s.marked u kind code)

theorem State.evaluated_channel (s : State) (u : SmallUnit) (kind : UnitKind) (code : BitVec 32) :
    ∃ pending, (s.evaluated u kind code).channel u.channel =
      { s.channel u.channel with cutPending := pending } := by
  have written := s.beginReturn.evaluateMarkers_channel (s.marked u kind code)
  rwa [s.beginReturn_channel] at written

theorem State.evaluated_profileOf (s : State) (u : SmallUnit) (kind : UnitKind)
    (code : BitVec 32) : (s.evaluated u kind code).profileOf u.channel = s.profileOf u.channel := by
  obtain ⟨pending, channel⟩ := s.evaluated_channel u kind code
  exact State.profileOf_congr (by simp [State.evaluated]) (by rw [channel])

theorem State.evaluated_egress (s : State) (u : SmallUnit) (kind : UnitKind) (code : BitVec 32) :
    (s.evaluated u kind code).egress = s.egress := by
  simp [State.evaluated]

theorem State.evaluated_small (s : State) (u : SmallUnit) (kind : UnitKind) (code : BitVec 32) :
    (s.evaluated u kind code).small = s.small := by
  simp [State.evaluated]

theorem State.sendAudio_small (t : State) (u : SmallUnit) : (t.sendAudio u).small = t.small := rfl

section Head
variable {s : State} {unit : SmallUnit} {rest : List SmallUnit}

theorem exec_processAudioUnit_of_not_running (h : s.hold.part ≠ .running) :
    exec .processAudioUnit s = .next s.beginReturn := by
  simp only [exec, execProcessAudioUnit, s.beginReturn_hold]
  split
  · next part _ => exact absurd part h
  · rfl

theorem exec_processCueUnit_of_not_running (h : s.hold.part ≠ .running) :
    exec .processCueUnit s = .next s.beginReturn := by
  simp only [exec, execProcessCueUnit, s.beginReturn_hold]
  split
  · next part _ => exact absurd part h
  · rfl

variable (head : s.small = unit :: rest)
include head

theorem State.releaseHead_of_head {t : State} (small : t.small = s.small) :
    t.releaseHead = { t with small := rest } := by
  rw [State.releaseHead, small, head, List.tail_cons]

variable (running : s.hold.part = .running)
include running

theorem exec_processAudioUnit_of_cue (cue : unit.kind = .cue) :
    exec .processAudioUnit s = .next s.beginReturn := by
  simp only [exec, execProcessAudioUnit, s.beginReturn_hold, s.beginReturn_small, running, head,
    List.head?_cons, cue]

theorem exec_processCueUnit_of_audio (audio : unit.kind = .audio) :
    exec .processCueUnit s = .next s.beginReturn := by
  simp only [exec, execProcessCueUnit, s.beginReturn_hold, s.beginReturn_small, running, head,
    List.head?_cons, audio]

theorem exec_processCueUnit_of_code (cue : unit.kind = .cue) (code : unit.payload.length = 4) :
    exec .processCueUnit s = .next
      { s.evaluated unit .cue (BitVec.ofNat 32 (beNat unit.payload)) with small := rest } := by
  rw [← State.releaseHead_of_head head (s.evaluated_small ..)]
  simp only [exec, execProcessCueUnit, s.beginReturn_hold, s.beginReturn_small, running, head,
    List.head?_cons, cue, State.beginReturn_smallMarked_cue cue, code, if_true]
  rfl

theorem exec_processCueUnit_of_badLength (cue : unit.kind = .cue) (h : unit.payload.length ≠ 4) :
    exec .processCueUnit s = .next { s.beginReturn with small := rest } := by
  rw [← State.releaseHead_of_head head s.beginReturn_small]
  simp only [exec, execProcessCueUnit, s.beginReturn_hold, s.beginReturn_small, running, head,
    List.head?_cons, cue, h, if_false]

/-- R115 to R120: the three fates of an audio unit. -/
theorem exec_processAudioUnit_of_audio (audio : unit.kind = .audio) :
    exec .processAudioUnit s =
      if s.beginReturn.audioSends unit then
        if s.egress.room < 2 * (samplesOf unit.payload).length then .next s.beginReturn
        else .next ((s.evaluated unit .audio 0).sendAudio unit).releaseHead
      else .next (s.evaluated unit .audio 0).releaseHead := by
  simp only [exec, execProcessAudioUnit, s.beginReturn_hold, s.beginReturn_small, running, head,
    List.head?_cons, audio, State.beginReturn_smallMarked_audio audio, s.beginReturn_egress]
  rfl

theorem exec_processAudioUnit_of_discarded (audio : unit.kind = .audio) (h : ¬ s.UnitSends unit) :
    exec .processAudioUnit s = .next { s.evaluated unit .audio 0 with small := rest } := by
  rw [exec_processAudioUnit_of_audio head running audio,
    if_neg ((s.beginReturn_audioSends_iff unit).not.2 h),
    State.releaseHead_of_head head (s.evaluated_small ..)]

variable (audio : unit.kind = .audio) (sends : s.UnitSends unit)
include audio sends

theorem exec_processAudioUnit_of_noRoom
    (full : ¬ unit.payload.length ≤ 268435456 - (s.egress.reservedBytes + s.egress.queuedBytes)) :
    exec .processAudioUnit s = .next s.beginReturn := by
  rw [exec_processAudioUnit_of_audio head running audio,
    if_pos ((s.beginReturn_audioSends_iff unit).2 sends), two_mul_length_samplesOf sends.even]
  exact if_pos (Nat.not_le.1 full)

theorem exec_processAudioUnit_of_room
    (room : unit.payload.length ≤ 268435456 - (s.egress.reservedBytes + s.egress.queuedBytes)) :
    exec .processAudioUnit s =
      .next { (s.evaluated unit .audio 0).sendAudio unit with small := rest } := by
  rw [exec_processAudioUnit_of_audio head running audio,
    if_pos ((s.beginReturn_audioSends_iff unit).2 sends), two_mul_length_samplesOf sends.even]
  have released := State.releaseHead_of_head head
    ((State.sendAudio_small _ unit).trans (s.evaluated_small unit .audio 0))
  exact (if_neg (Nat.not_lt.2 room)).trans (congrArg Host.Outcome.next released)

end Head

/-! ### The sending of a levelled unit (R118 to R120) -/

theorem Channel.audioSegment_of_append {c : Channel} {older : List SegmentEntry}
    {last : SegmentEntry} (h : c.segments = older ++ [last]) : c.audioSegment = last.number := by
  rw [Channel.audioSegment, Channel.newest_of_append h]

theorem Channel.audioSegment_of_empty {c : Channel} (h : c.segments = []) : c.audioSegment = 0 := by
  rw [Channel.audioSegment, Channel.newest_of_empty h]

theorem Channel.addAudio_of_append {c : Channel} {older : List SegmentEntry} {last : SegmentEntry}
    (h : c.segments = older ++ [last]) (n : Nat) :
    c.addAudio n = { c with segments := older ++ [{ last with
      bytes := last.bytes.set 4 (min 18446744073709551615 (last.bytes[4] + n)) }] } := by
  rw [Channel.addAudio, Channel.newest_of_append h]
  exact Channel.modNewest_of_append h _

theorem Channel.addAudio_of_empty {c : Channel} (h : c.segments = []) (n : Nat) :
    c.addAudio n =
      { c with preSegmentAudio := min 18446744073709551615 (c.preSegmentAudio + n) } := by
  rw [Channel.addAudio, Channel.newest_of_empty h]; rfl

/-- R118 and R119: a channel's record after a unit of these samples has been levelled. -/
def Channel.levelled (c : Channel) (p : Profile) (gain : Nat) (samples : List (BitVec 16)) :
    Channel :=
  { c with
    leveller := c.leveller.adapt p (peak gain samples)
    counters := { c.counters with
      clippedSamples := min 4294967295 (c.counters.clippedSamples + clippedCount gain samples) } }

/-- R120: the levelled unit as it joins the egress queue, with its segment's number. -/
def SmallUnit.levelledEntry (u : SmallUnit) (c : Channel) (number : Nat) : EgressEntry :=
  .audio { channel := u.channel, rendition := 4, segment := number,
           time := u.timestamp - c.base.getD 0, key := true }
    ((samplesOf u.payload).map (levelSample c.leveller.gain))

/-- The count of a unit's bytes and the levelling write different fields. -/
theorem Channel.addAudio_levelled (c : Channel) (p : Profile) (gain : Nat)
    (samples : List (BitVec 16)) (n : Nat) :
    { c.addAudio n with
      leveller := (c.levelled p gain samples).leveller
      counters := (c.levelled p gain samples).counters } =
      (c.levelled p gain samples).addAudio n := by
  rcases List.eq_nil_or_concat' c.segments with h | ⟨older, last, h⟩
  · rw [Channel.addAudio_of_empty h, Channel.addAudio_of_empty (c := c.levelled p gain samples) h]
    rfl
  · rw [Channel.addAudio_of_append h, Channel.addAudio_of_append (c := c.levelled p gain samples) h]
    rfl

section Sending
variable {t : State} {u : SmallUnit} (even : u.payload.length % 2 = 0)
include even

theorem State.sendAudio_eq :
    t.sendAudio u = { t with
      channels := t.channels.set u.channel (((t.channel u.channel).levelled
        (t.profileOf u.channel) (t.channel u.channel).leveller.gain
        (samplesOf u.payload)).addAudio u.payload.length)
      egress := { t.egress with
        queue := t.egress.queue ++
          [u.levelledEntry (t.channel u.channel) (t.channel u.channel).audioSegment]
        queuedBytes := t.egress.queuedBytes + u.payload.length } } := by
  simp only [State.sendAudio, State.modChannel, State.enqueue, EgressEntry.size, List.length_map,
    two_mul_length_samplesOf even, ← Channel.addAudio_levelled]
  rfl

variable {c : Channel} {pending : Option CutPending}
  (written : t.channel u.channel = { c with cutPending := pending })
include written

/-- R120: the newest entry of the segment table counts the unit and gives it its number. -/
theorem State.sendAudio_of_append {older : List SegmentEntry} {last : SegmentEntry}
    (h : c.segments = older ++ [last]) :
    t.sendAudio u = { t with
      channels := t.channels.set u.channel
        { (t.channel u.channel).levelled (t.profileOf u.channel) c.leveller.gain
            (samplesOf u.payload) with
          segments := older ++ [{ last with
            bytes := last.bytes.set 4
              (min 18446744073709551615 (last.bytes[4] + u.payload.length)) }] }
      egress := { t.egress with
        queue := t.egress.queue ++ [u.levelledEntry c last.number]
        queuedBytes := t.egress.queuedBytes + u.payload.length } } := by
  have segments : (t.channel u.channel).segments = older ++ [last] := by rw [written, h]
  rw [State.sendAudio_eq even, Channel.audioSegment_of_append segments,
    Channel.addAudio_of_append (c := Channel.levelled _ _ _ _) segments, written]
  rfl

/-- R120: before the first segment the unit is counted in the pre-segment bytes. -/
theorem State.sendAudio_of_empty (h : c.segments = []) :
    t.sendAudio u = { t with
      channels := t.channels.set u.channel
        { (t.channel u.channel).levelled (t.profileOf u.channel) c.leveller.gain
            (samplesOf u.payload) with
          preSegmentAudio := min 18446744073709551615 (c.preSegmentAudio + u.payload.length) }
      egress := { t.egress with
        queue := t.egress.queue ++ [u.levelledEntry c 0]
        queuedBytes := t.egress.queuedBytes + u.payload.length } } := by
  have segments : (t.channel u.channel).segments = [] := by rw [written, h]
  rw [State.sendAudio_eq even, Channel.audioSegment_of_empty segments,
    Channel.addAudio_of_empty (c := Channel.levelled _ _ _ _) segments, written]
  rfl

end Sending

/-- Settles O60: each fate of the head unit has its lemma about the command, and the two ways of
counting a unit that is sent have theirs about `State.sendAudio`. -/
theorem headSmallUnitIsProcessed : Obligations.HeadSmallUnitIsProcessed := by
  intro s unit rest head c p time u evaluated n samples sends room
  refine ⟨fun waiting => ⟨exec_processAudioUnit_of_not_running waiting,
      exec_processCueUnit_of_not_running waiting⟩,
    fun running cue => ⟨exec_processAudioUnit_of_cue head running cue,
      exec_processCueUnit_of_code head running cue,
      exec_processCueUnit_of_badLength head running cue⟩,
    fun running audio => ⟨exec_processCueUnit_of_audio head running audio,
      exec_processAudioUnit_of_discarded head running audio,
      exec_processAudioUnit_of_noRoom head running audio, fun sent fits => ?_⟩⟩
  intro m d counted levelled
  -- From here on `m` stands for any state with the facts below: the markers' fold stays folded.
  have same : s.evaluated unit .audio 0 = m := rfl
  have even := State.UnitSends.even (s := s) (u := unit) sent
  have processed := exec_processAudioUnit_of_room head running audio sent fits
  have profile := s.evaluated_profileOf unit .audio 0
  have egress := s.evaluated_egress unit .audio 0
  obtain ⟨pending, channel⟩ := s.evaluated_channel unit .audio 0
  rw [same] at processed profile egress channel
  clear_value m
  refine ⟨length_samplesOf unit.payload, fun older last hc => ?_, fun hc => ?_⟩
  · rw [State.sendAudio_of_append even channel hc, profile, egress] at processed
    exact processed
  · rw [State.sendAudio_of_empty even channel hc, profile, egress] at processed
    exact processed

end Sys2Proof.Machine

/-! SUPPORT. The egress port (sections 9.3 to 9.5): when the stall timer starts and when the head is
read, what the commands of the port answer, and the frames that an entry is cut into; then the
statements on them. -/

namespace Sys2Proof.Machine

/-! ### The stall timer (R130) -/

theorem EgressPort.frameReady_iff (p : EgressPort) :
    p.frameReady = true ↔ p.queue ≠ [] ∧ p.wire = .idle ∧ p.head ≠ .unread := by
  simp [EgressPort.frameReady, and_assoc]

theorem State.stallWaits_iff (s : State) :
    s.stallWaits = true ↔ s.egress.frameReady = true ∧ s.egress.credits = 0
      ∧ s.hold.part ≠ .held ∧ s.egress.stalled = false ∧ s.settings.stallTimeout ≠ 0 := by
  simp [State.stallWaits, and_assoc]

/-- Settles O14: the test in `State.startStall` is the statement's, by `State.stallWaits_iff`. -/
theorem stallTimerStarts : Obligations.StallTimerStarts := by
  intro s
  refine if_congr ?_ rfl rfl
  rw [Bool.and_eq_true, Option.isNone_iff_eq_none, State.stallWaits_iff,
    EgressPort.frameReady_iff]
  simp only [and_assoc]

/-! ### The head entry is read and its frames begin (R125, R127, R132) -/

theorem State.maySend_iff (s : State) :
    s.maySend = true ↔ s.egress.link = .up ∧ s.egress.wire = .idle ∧ s.hold.part ≠ .held
      ∧ 1 ≤ s.egress.credits := by
  simp [State.maySend, and_assoc]

@[simp] theorem State.beginReturn_maySend (s : State) : s.beginReturn.maySend = s.maySend := by
  simp only [State.maySend, State.beginReturn_egress, State.beginReturn_hold]

@[simp] theorem State.beginReturn_headToRead (s : State) :
    s.beginReturn.headToRead = s.headToRead := by
  simp only [State.headToRead, State.beginReturn_egress, State.beginReturn_maySend]

theorem State.headToRead_of_unread {s : State} (h : s.egress.head = .unread) :
    s.headToRead = some false := by
  rw [State.headToRead, h]

theorem State.headToRead_of_rewound {s : State} (h : s.egress.head = .rewound) :
    s.headToRead = if s.maySend then some true else none := by
  rw [State.headToRead, h]

theorem damageOf_eq (o : ReadOutcome) (serial : Nat) :
    damageOf o serial = if o = .uncorrectable then some serial else none := by
  cases o <;> rfl

section Head
variable {s : State} {entry : EgressEntry} {rest : List EgressEntry}
  (head : s.egress.queue = entry :: rest)
include head

/-- R125: the read of a head that is to be read. -/
theorem exec_egressRead_of_due {begun : Bool} (due : s.headToRead = some begun)
    (o : ReadOutcome) :
    exec (.egressRead o) s =
      .next (State.startStall { s.beginReturn.reportRead o entry.faultRecord with
        egress := { s.egress with
          head := .read (if o = .uncorrectable then some s.freeSerial else none) begun none 0 }
        freeSerial := s.freeSerial + 1 }) := by
  simp only [exec, execEgressRead, State.beginReturn_egress, State.beginReturn_headToRead, head,
    due, State.reportRead_egress, State.reportRead_freeSerial, State.beginReturn_freeSerial,
    damageOf_eq]

theorem exec_egressRead_of_not_due (not_due : s.headToRead = none) (o : ReadOutcome) :
    exec (.egressRead o) s = .next s.beginReturn := by
  simp only [exec, execEgressRead, State.beginReturn_egress, State.beginReturn_headToRead, head,
    not_due]

variable {damage : Option Nat} {begun : Bool} {cut : Option Nat} {sent : Nat}
  (read : s.egress.head = .read damage begun cut sent)
include read

/-- R127: what a begin does once the head's read has ended. -/
theorem exec_egressFrameBegin_of_read :
    exec .egressFrameBegin s =
      if s.maySend then .next { s.beginReturn with egress := { s.egress with
        wire := .frame, credits := s.egress.credits - 1
        head := .read damage true (some (cut.getD s.settings.egressPayload)) sent } }
      else .next s.beginReturn := by
  simp only [exec, execEgressFrameBegin, cutAt, State.beginReturn_egress, State.beginReturn_maySend,
    State.beginReturn_settings, head, read]

end Head

/-- Settles O48: the two heads that may be read, and the begin, by what `State.maySend` says. -/
theorem headIsReadAndItsFramesBegin : Obligations.HeadIsReadAndItsFramesBegin := by
  intro s entry rest head may
  have sends : s.maySend = true ↔ may := s.maySend_iff
  refine ⟨fun o begun due => exec_egressRead_of_due head ?_ o, fun o rewound not_may =>
      exec_egressRead_of_not_due head ?_ o, fun damage begun cut sent read => ?_⟩
  · rcases due with ⟨unread, rfl⟩ | ⟨rewound, can, rfl⟩
    · exact State.headToRead_of_unread unread
    · rw [State.headToRead_of_rewound rewound, if_pos (sends.2 can)]
  · rw [State.headToRead_of_rewound rewound, if_neg (not_may ∘ sends.1)]
  · rw [exec_egressFrameBegin_of_read head read]
    exact ⟨fun can => if_pos (sends.2 can), fun cannot => if_neg (cannot ∘ sends.1)⟩

/-! ### Numbers and fields of a header (R164) -/

theorem beNat_concat (l : List Byte) (b : Byte) : beNat (l ++ [b]) = beNat l * 256 + b.toNat := by
  simp [beNat]

theorem length_beBytes (n : Nat) : ∀ x : Nat, (beBytes n x).length = n := by
  induction n with
  | zero => exact fun _ => rfl
  | succ n ih => intro x; simp [beBytes, ih]

/-- `n` bytes spell a number up to its multiples of 256 ^ `n`. -/
theorem beNat_beBytes (n : Nat) : ∀ x : Nat, beNat (beBytes n x) = x % 256 ^ n := by
  induction n with
  | zero => intro x; rw [pow_zero, Nat.mod_one]; rfl
  | succ n ih =>
    intro x
    rw [beBytes, beNat_concat, ih, BitVec.toNat_ofNat, pow_succ' 256 n, Nat.mod_mul]
    omega

theorem toNat_byteOf (n : Nat) : (byteOf n).toNat = n % 256 := BitVec.toNat_ofNat n 8

/-- R164: what a frame carries of its own making, whatever its first 12 header bytes are. -/
theorem frameOf_spec {first12 : List Byte} (h : first12.length = 12) (payload : List Byte) :
    (frameOf first12 payload).header.length = 16
      ∧ (∀ i < 12, byteAt (frameOf first12 payload).header i = byteAt first12 i)
      ∧ (∀ i n, i + n ≤ 12 → field (frameOf first12 payload).header i n = field first12 i n)
      ∧ beNat (field (frameOf first12 payload).header 12 2) = payload.length % 65536
      ∧ beNat (field (frameOf first12 payload).header 14 2) =
        (crc16 ((frameOf first12 payload).header.take 14)).toNat := by
  have sealed := Laws.headerChecks_seal (first12 ++ beBytes 2 payload.length)
    (by rw [List.length_append, h, length_beBytes])
  rw [headerChecks, Bool.and_eq_true, beq_iff_eq, beq_iff_eq] at sealed
  obtain ⟨length, check⟩ := sealed
  have header : (frameOf first12 payload).header =
      first12 ++ (beBytes 2 payload.length ++
        beBytes 2 (crc16 (first12 ++ beBytes 2 payload.length)).toNat) :=
    List.append_assoc ..
  refine ⟨length, fun i hi => ?_, fun i n hn => ?_, ?_, check⟩
  · rw [header, byteAt, byteAt, List.getD_append _ _ _ _ (h ▸ hi)]
  · rw [header, field, field, List.drop_append_of_le_length (by omega),
      List.take_append_of_le_length (by rw [List.length_drop]; omega)]
  · rw [header, field, List.drop_left' h, List.take_left' (length_beBytes _ _)]
    exact beNat_beBytes 2 _

/-! ### The frames of an entry (R126, R165, R168) -/

/-- R165: the first 12 header bytes of the frames of units and of records, whose fields differ. -/
def egressHeader (kind : Nat) (channel : ChannelId) (rendition : Nat) (key : Bool)
    (segment time : Nat) (damaged : Bool) (pos : Position) : List Byte :=
  [byteOf kind, byteOf channel.val, byteOf (rendition + 16 * positionCode pos),
    markByte key damaged] ++ beBytes 4 segment ++ beBytes 4 time

theorem recordHeader_eq (ch : ChannelId) (number start : Nat) (damaged : Bool) (pos : Position) :
    recordHeader ch number start damaged pos =
      egressHeader 6 ch 0 false number start damaged pos := by
  rw [egressHeader, Nat.zero_add]; rfl

theorem length_egressHeader (kind : Nat) (channel : ChannelId) (rendition : Nat) (key : Bool)
    (segment time : Nat) (damaged : Bool) (pos : Position) :
    (egressHeader kind channel rendition key segment time damaged pos).length = 12 := by
  simp [egressHeader, length_beBytes]

/-- R165: a frame with such a header carries its fields. -/
theorem frameOf_egressHeader {kind : Nat} (hk : kind < 256) (channel : ChannelId) (rendition : Nat)
    (key : Bool) (segment time : Nat) (damaged : Bool) (pos : Position) (payload : List Byte) :
    let x := frameOf (egressHeader kind channel rendition key segment time damaged pos) payload
    (byteAt x.header 0).toNat = kind
      ∧ (byteAt x.header 1).toNat = channel.val
      ∧ (byteAt x.header 2).toNat = (rendition + 16 * positionCode pos) % 256
      ∧ (byteAt x.header 3).toNat = bit key + 2 * bit damaged
      ∧ beNat (field x.header 4 4) = segment % 4294967296
      ∧ beNat (field x.header 8 4) = time % 4294967296 := by
  intro x
  obtain ⟨-, bytes, fields, -, -⟩ :=
    frameOf_spec (length_egressHeader kind channel rendition key segment time damaged pos) payload
  refine ⟨?_, ?_, ?_, ?_, ?_, ?_⟩
  · rw [bytes 0 (by decide)]
    exact (toNat_byteOf kind).trans (Nat.mod_eq_of_lt hk)
  · rw [bytes 1 (by decide)]
    exact (toNat_byteOf channel.val).trans (Nat.mod_eq_of_lt (by omega))
  · rw [bytes 2 (by decide)]
    exact toNat_byteOf _
  · rw [bytes 3 (by decide)]
    exact (toNat_byteOf _).trans (by cases key <;> cases damaged <;> rfl)
  · rw [fields 4 4 (by decide)]
    exact beNat_beBytes 4 segment
  · rw [fields 8 4 (by decide)]
    exact beNat_beBytes 4 time

/-- R124 and R168: an entry is written at its size, but for a skip picture said to be longer. -/
theorem EgressEntry.length_written (e : EgressEntry)
    (skip : ∀ tag n, e = .coded tag n .skipPicture → n ≤ 16) : e.written.length = e.size := by
  cases e with
  | coded tag n content =>
    cases content with
    | engine serial source reference => simp [EgressEntry.written, EgressEntry.size]
    | skipPicture =>
      simpa [EgressEntry.written, EgressEntry.size, skipUnit, zeros] using skip tag n rfl
  | skip tag => rfl
  | audio tag samples =>
    simp [EgressEntry.written, EgressEntry.size, List.length_flatMap, length_beBytes, Nat.mul_comm]
  | segment r =>
    simp [EgressEntry.written, EgressEntry.size, SegmentRecord.layout, Config.recordBytes,
      List.length_flatMap, length_beBytes]
  | ended r =>
    simp [EgressEntry.written, EgressEntry.size, EndRecord.layout, Config.recordBytes,
      length_beBytes, zeros]

theorem EgressEntry.length_asRead (e : EgressEntry) (damage : Option Nat)
    (skip : ∀ tag n, e = .coded tag n .skipPicture → n ≤ 16) :
    (e.asRead damage).length = e.size := by
  cases damage with
  | none => exact e.length_written skip
  | some serial => simp [EgressEntry.asRead]

/-- R126: slices of `p` bytes, in order and enough of them, are the data. -/
theorem flatMap_frameSlice (p n : Nat) : ∀ data : List Byte, data.length ≤ p * n →
    (List.range n).flatMap (frameSlice data p) = data := by
  induction n with
  | zero => intro data h; rw [List.eq_nil_of_length_eq_zero (Nat.le_zero.1 h)]; rfl
  | succ n ih =>
    intro data h
    have rest (k : Nat) : frameSlice data p (k + 1) = frameSlice (data.drop p) p k := by
      rw [frameSlice, frameSlice, List.drop_drop, Nat.mul_succ, Nat.add_comm]
    have short : (data.drop p).length ≤ p * n := by
      rw [List.length_drop]; rw [Nat.mul_succ] at h; omega
    rw [List.range_succ_eq_map, List.flatMap_cons, List.flatMap_map]
    simp only [rest]
    rw [ih _ short, frameSlice, Nat.mul_zero, List.drop_zero, List.take_append_drop]

theorem positionCode_framePosition {n k : Nat} (hk : k < n) :
    positionCode (framePosition n k) =
      if n = 1 then 0 else if k = 0 then 1 else if k + 1 = n then 3 else 2 := by
  have one : n ≤ 1 ↔ n = 1 := by omega
  simp only [framePosition, one, apply_ite positionCode]
  rfl

/-- R126: the count of frames covers the size, and one fewer does not. -/
theorem frameCount_spec {size p : Nat} (hp : 0 < p) (hs : 1 ≤ size) :
    size ≤ p * frameCount size p ∧ p * (frameCount size p - 1) < size := by
  have below : p * frameCount size p ≤ size + p - 1 := Nat.mul_div_le _ _
  have above : size + p - 1 < p * (frameCount size p + 1) :=
    Nat.lt_mul_div_succ _ hp
  have pos : 1 ≤ frameCount size p := Nat.div_pos (by omega) hp
  obtain ⟨m, hm⟩ := Nat.exists_eq_add_of_le' pos
  simp only [hm, Nat.add_sub_cancel, Nat.mul_succ] at below above ⊢
  omega

/-- R126: every slice is of `p` bytes but the last, which is the remainder. -/
theorem length_frameSlice {data : List Byte} {p k : Nat} (hp : 0 < p) (hs : 1 ≤ data.length)
    (hk : k < frameCount data.length p) :
    (frameSlice data p k).length =
      if k + 1 < frameCount data.length p then p
      else data.length - p * (frameCount data.length p - 1) := by
  obtain ⟨above, below⟩ := frameCount_spec hp hs
  rw [frameSlice, List.length_take, List.length_drop]
  split
  · next more =>
    have covered : p * (k + 1) ≤ p * (frameCount data.length p - 1) :=
      Nat.mul_le_mul_left p (by omega)
    rw [Nat.mul_succ] at covered
    omega
  · next last =>
    obtain ⟨m, hm⟩ : ∃ m, frameCount data.length p = m + 1 := ⟨k, by omega⟩
    have same : k = m := by omega
    rw [hm, Nat.add_sub_cancel] at below
    rw [hm, Nat.mul_succ] at above
    rw [same, hm, Nat.add_sub_cancel]
    omega

/-- R126 and R165: an entry whose frames carry these header fields is sent whole with them. -/
theorem EgressEntry.frames_spec {e : EgressEntry} {damage : Option Nat} {p kind : Nat}
    {channel : ChannelId} {rendition : Nat} {key : Bool} {segment time : Nat}
    (header : ∀ damaged pos, e.header damaged pos =
      egressHeader kind channel rendition key segment time damaged pos)
    (hk : kind < 256) (hp : 0 < p) (hs : 1 ≤ e.size)
    (skip : ∀ tag n, e = .coded tag n .skipPicture → n ≤ 16) :
    (e.asRead damage).length = e.size
      ∧ (List.range (frameCount e.size p)).flatMap (fun k => (e.frame damage p k).payload) =
        e.asRead damage
      ∧ ∀ k, k < frameCount e.size p →
        let x := e.frame damage p k
        let n := frameCount e.size p
        let position := if n = 1 then 0 else if k = 0 then 1 else if k + 1 = n then 3 else 2
        x.header.length = 16
          ∧ (byteAt x.header 0).toNat = kind
          ∧ (byteAt x.header 1).toNat = channel.val
          ∧ (byteAt x.header 2).toNat = (rendition + 16 * position) % 256
          ∧ (byteAt x.header 3).toNat =
            (if key = true then 1 else 0) + (if damage = none then 0 else 2)
          ∧ beNat (field x.header 4 4) = segment % 4294967296
          ∧ beNat (field x.header 8 4) = time % 4294967296
          ∧ beNat (field x.header 12 2) = x.payload.length % 65536
          ∧ beNat (field x.header 14 2) = (crc16 (x.header.take 14)).toNat
          ∧ x.check = crc32 x.payload
          ∧ x.payload.length = if k + 1 < n then p else e.size - p * (n - 1) := by
  have length := e.length_asRead damage skip
  obtain ⟨covered, -⟩ := frameCount_spec hp hs
  refine ⟨length, flatMap_frameSlice p _ _ (length.trans_le covered), fun k hk' => ?_⟩
  intro x n position
  have frame : x = frameOf (egressHeader kind channel rendition key segment time damage.isSome
      (framePosition n k)) (frameSlice (e.asRead damage) p k) := congrArg (frameOf · _) (header _ _)
  have made := frameOf_spec (length_egressHeader kind channel rendition key segment time
    damage.isSome (framePosition n k)) (frameSlice (e.asRead damage) p k)
  have labelled := frameOf_egressHeader hk channel rendition key segment time damage.isSome
    (framePosition n k) (frameSlice (e.asRead damage) p k)
  have mark : bit key + 2 * bit damage.isSome =
      (if key = true then 1 else 0) + (if damage = none then 0 else 2) := by
    cases damage <;> rfl
  rw [positionCode_framePosition hk', mark, ← frame] at labelled
  rw [← frame] at made
  obtain ⟨size, -, -, lengthField, checkField⟩ := made
  obtain ⟨kindByte, channelByte, positionByte, markByte, segmentField, timeField⟩ := labelled
  have slice := length_frameSlice (k := k) hp (length ▸ hs) (length.symm ▸ hk')
  rw [length] at slice
  exact ⟨size, kindByte, channelByte, positionByte, markByte, segmentField, timeField,
    lengthField, checkField, rfl, slice⟩

/-! ### A frame has been sent (R127, R128) -/

section Sent
variable {s : State} {entry : EgressEntry} {rest : List EgressEntry} {damage : Option Nat}
  {begun : Bool} {p sent : Nat} (head : s.egress.queue = entry :: rest)
  (wire : s.egress.wire = .frame) (read : s.egress.head = .read damage begun (some p) sent)
include head wire read

theorem State.egressFrame_of_read : s.egressFrame = some (entry.frame damage p sent) := by
  simp only [State.egressFrame, wire, head, read]

theorem exec_egressFrameSent_of_read :
    exec .egressFrameSent s =
      if frameCount entry.size p ≤ sent + 1 then
        .next (State.startStall (State.settleHold { s.beginReturn with
          egress := { s.egress with
            queue := rest, queuedBytes := s.egress.queuedBytes - entry.size
            head := .unread, wire := .idle } }))
      else
        .next (State.startStall { s.beginReturn with
          egress := { s.egress with
            wire := .idle, head := .read damage begun (some p) (sent + 1) } }) := by
  simp only [exec, execEgressFrameSent, EgressPort.finishHead, State.beginReturn_egress, wire, head,
    read, List.tail_cons]

end Sent

/-- Settles O49: each kind of entry has the header of `EgressEntry.frames_spec`; the end of a frame
is `exec_egressFrameSent_of_read`. -/
theorem entriesAreSentWhole : Obligations.EntriesAreSentWhole := by
  refine ⟨fun e damage p hp hs skip => ?_,
    fun s entry rest damage begun p sent head wire read => ?_⟩
  · cases e with
    | coded tag n content => exact EgressEntry.frames_spec (fun _ _ => rfl) (by decide) hp hs skip
    | skip tag => exact EgressEntry.frames_spec (fun _ _ => rfl) (by decide) hp hs skip
    | audio tag samples => exact EgressEntry.frames_spec (fun _ _ => rfl) (by decide) hp hs skip
    | segment r =>
      exact EgressEntry.frames_spec (fun _ _ => recordHeader_eq ..) (by decide) hp hs skip
    | ended r =>
      exact EgressEntry.frames_spec (fun _ _ => recordHeader_eq ..) (by decide) hp hs skip
  · rw [exec_egressFrameSent_of_read head wire read]
    exact ⟨State.egressFrame_of_read head wire read, fun more => if_neg (Nat.not_le.2 more),
      fun last => if_pos last⟩

/-! ### Credits, the stall timer's expiry and the loss of the link (R129, R130, R132, R133) -/

/-- R164 and R129: what the egress port takes as a credit frame. -/
theorem egressCreditPasses_iff {f : RawFrame} (h : f.header.length = 16) :
    egressCreditPasses f = true ↔
      beNat (field f.header 14 2) = (crc16 (f.header.take 14)).toNat
        ∧ f.check = crc32 f.payload ∧ byteAt f.header 0 = 0x07#8
        ∧ beNat (field f.header 12 2) = 4 ∧ f.payload.length = 4 := by
  simp only [egressCreditPasses, headerChecks, h, BEq.rfl, Bool.true_and, Bool.and_eq_true,
    beq_iff_eq, and_assoc]
  exact Iff.rfl

theorem exec_egressCredit_of_up {s : State} (up : s.egress.link = .up) (f : RawFrame) :
    exec (.egressCredit f) s =
      if egressCreditPasses f = true ∧ 1 ≤ (byteAt f.header 3).toNat then
        .next { s.beginReturn with egress := { s.egress with
          credits := min 255 (s.egress.credits + (byteAt f.header 3).toNat)
          stallTimer := none, stalled := false } }
      else .next s.beginReturn := by
  simp only [exec, execEgressCredit, State.beginReturn_egress, up, BEq.rfl, Bool.true_and,
    Bool.and_eq_true, decide_eq_true_eq]
  rfl

theorem exec_stallTimerExpiry_of_running {s : State} (running : s.egress.stallTimer.isSome = true) :
    exec .stallTimerExpiry s = .next (State.raise { s.beginReturn with
      egress := { s.egress with stallTimer := none, stalled := true } }
        (.egressStall s.egress.queuedBytes s.egress.link)) := by
  simp only [exec, execStallTimerExpiry, State.beginReturn_egress, running, if_true]

theorem exec_egressLinkDown_of_up {s : State} (up : s.egress.link = .up) :
    exec .egressLinkDown s = .next (State.startStall { s.beginReturn with
      egress := { s.egress with
        link := .down, credits := 0, wire := .idle, head := s.egress.head.rewind } }) := by
  simp only [exec, execEgressLinkDown, State.beginReturn_egress, up]
  rfl

theorem exec_egressFrameSent_of_detached {s : State} (detached : s.egress.wire = .detached) :
    exec .egressFrameSent s = .next (State.startStall { s.beginReturn with
      egress := { s.egress with wire := .idle } }) := by
  simp only [exec, execEgressFrameSent, State.beginReturn_egress, detached]

/-- Settles O50: a lemma for each of the four commands; the frame's test is
`egressCreditPasses_iff`. -/
theorem egressCreditsStallsAndLoss : Obligations.EgressCreditsStallsAndLoss := by
  intro s
  refine ⟨fun f up length => ?_, exec_stallTimerExpiry_of_running, fun up => ?_,
    exec_egressFrameSent_of_detached⟩
  · intro good n
    have passes : egressCreditPasses f = true ↔ good := egressCreditPasses_iff length
    rw [exec_egressCredit_of_up up f]
    refine ⟨fun ok pos => if_pos ⟨passes.2 ok, pos⟩, fun bad => if_neg ?_⟩
    rintro ⟨ok, pos⟩
    rcases bad with bad | zero
    · exact bad (passes.1 ok)
    · exact absurd zero (Nat.one_le_iff_ne_zero.1 pos)
  · rw [exec_egressLinkDown_of_up up]
    rfl

end Sys2Proof.Machine

/-! SUPPORT. The two totals of the egress store (R122): what a reservation or an entry more or less
does to them, then the shared operations, then the commands one by one. -/

namespace Sys2Proof.Machine

-- One after another: elaborated side by side, these many case splits exceed the memory limit.
set_option Elab.async false

/-! ### What the jobs have reserved (R78, R85, R86) -/

theorem Job.reservation_of_queued {j : Job} (h : j.state = .queued) : j.reservation = 0 := by
  rw [Job.reservation, h]

theorem Job.reservation_of_running {j : Job} {record : DispatchRecord} {abandoned : Bool}
    (h : j.state = .running record abandoned) : j.reservation = record.cap := by
  rw [Job.reservation, h]

/-- The bytes that the RUNNING ones of the jobs have reserved. -/
def reservations (jobs : List Job) : Nat :=
  (jobs.map Job.reservation).sum

theorem reservations_cons (j : Job) (l : List Job) :
    reservations (j :: l) = j.reservation + reservations l := by
  rw [reservations, List.map_cons, List.sum_cons]; rfl

theorem reservations_perm {l l' : List Job} (h : l.Perm l') : reservations l = reservations l' :=
  (h.map _).sum_eq

theorem reservations_append_of_queued {jobs added : List Job}
    (queued : ∀ j ∈ added, j.state = .queued) :
    reservations (jobs ++ added) = reservations jobs := by
  have none : reservations added = 0 := List.sum_eq_zero fun n hn => by
    obtain ⟨j, hj, rfl⟩ := List.mem_map.1 hn
    exact Job.reservation_of_queued (queued j hj)
  rw [reservations, List.map_append, List.sum_append]
  exact (congrArg _ none).trans (Nat.add_zero _)

/-- A job that leaves the queue takes its reservation with it. -/
theorem reservations_eraseIdx {jobs : List Job} {i : Nat} {j : Job} (found : jobs[i]? = some j) :
    reservations jobs = j.reservation + reservations (jobs.eraseIdx i) := by
  rw [reservations_perm (perm_cons_eraseIdx_of_getElem? found)]
  exact reservations_cons j _

/-- A job rewritten in its place, when it had reserved nothing. -/
theorem reservations_set {jobs : List Job} {i : Nat} {j k : Job} (found : jobs[i]? = some j)
    (queued : j.state = .queued) :
    reservations (jobs.set i k) = reservations jobs + k.reservation := by
  obtain ⟨inside, -⟩ := List.getElem?_eq_some_iff.1 found
  rw [reservations_perm (List.set_perm_cons_eraseIdx inside k), reservations_cons,
    reservations_eraseIdx found, Job.reservation_of_queued queued, Nat.zero_add, Nat.add_comm]

/-- R13 and R86: the jobs that ABORT removes had reserved nothing, and those it marks keep what they
have. -/
theorem reservations_afterAbort (ch : ChannelId) (jobs : List Job) :
    reservations (jobs.filterMap (fun j => j.afterAbort ch)) = reservations jobs := by
  induction jobs with
  | nil => rfl
  | cons j l ih =>
    rw [reservations_cons, ← ih, List.filterMap_cons, Job.afterAbort_eq]
    cases h : j.state with
    | queued =>
      by_cases other : j.channel ≠ ch
      · simp [other, Job.marked_of_ne other, reservations_cons]
      · simp [other, Job.reservation_of_queued h]
    | running record abandoned =>
      have kept : (j.marked ch).reservation = j.reservation := by
        simp [Job.marked, Job.reservation, h]
      simp [reservations_cons, kept]

/-! ### The totals (R122) -/

theorem State.egressTotals_iff (s : State) :
    s.EgressTotals ↔ s.egress.reservedBytes = reservations s.jobs
      ∧ s.egress.queuedBytes = (s.egress.queue.map EgressEntry.size).sum
      ∧ s.egress.reservedBytes + s.egress.queuedBytes ≤ 268435456 := Iff.rfl

/-- R122: the store has room for more bytes. -/
theorem EgressPort.le_room_iff (p : EgressPort) (n : Nat) :
    n ≤ p.room ↔ n ≤ 268435456 - (p.reservedBytes + p.queuedBytes) := Iff.rfl

namespace State.EgressTotals
variable {s t : State} (ok : s.EgressTotals)
include ok

/-- An update that leaves the jobs and the egress port. -/
theorem of_eq (jobs : t.jobs = s.jobs := by simp) (egress : t.egress = s.egress := by simp) :
    t.EgressTotals := by
  rw [egressTotals_iff, jobs, egress]; exact ok

/-- An update that leaves the reservations, the egress queue and the two totals. -/
theorem of_same (jobs : reservations t.jobs = reservations s.jobs := by rfl)
    (queue : t.egress.queue = s.egress.queue := by rfl)
    (reserved : t.egress.reservedBytes = s.egress.reservedBytes := by rfl)
    (queued : t.egress.queuedBytes = s.egress.queuedBytes := by rfl) : t.EgressTotals := by
  rw [egressTotals_iff, jobs, queue, reserved, queued]; exact ok

/-- R123: an entry for which there is room joins the queue. -/
theorem enqueue {e : EgressEntry} (room : e.size ≤ s.egress.room) : (s.enqueue e).EgressTotals := by
  obtain ⟨reserved, queued, fits⟩ := ok
  rw [EgressPort.le_room_iff] at room
  refine ⟨reserved, ?_, ?_⟩
  · simp [State.enqueue, queued]
  · show s.egress.reservedBytes + (s.egress.queuedBytes + e.size) ≤ 268435456
    omega

/-- R128: the head entry leaves. -/
theorem finishHead {e : EgressEntry} {rest : List EgressEntry} (head : s.egress.queue = e :: rest) :
    EgressTotals { s with egress := s.egress.finishHead e } := by
  obtain ⟨reserved, queued, fits⟩ := ok
  rw [head, List.map_cons, List.sum_cons] at queued
  refine ⟨reserved, ?_, (Nat.add_le_add_left (Nat.sub_le _ _) _).trans fits⟩
  show s.egress.queuedBytes - e.size = (s.egress.queue.tail.map EgressEntry.size).sum
  rw [head, queued, Nat.add_sub_cancel_left]
  rfl

/-! #### Jobs -/

/-- R78: a QUEUED job starts whose cap fits. -/
theorem startJob {i : Nat} {j : Job} {record : DispatchRecord} (found : s.jobs[i]? = some j)
    (queued : j.state = .queued) (room : record.cap ≤ s.egress.room) (pool : SlotPool) :
    (s.startJob i j record pool).EgressTotals := by
  obtain ⟨reserved, sizes, fits⟩ := s.egressTotals_iff.1 ok
  rw [EgressPort.le_room_iff] at room
  refine (egressTotals_iff _).2 ⟨?_, sizes, ?_⟩
  · exact (congrArg (· + record.cap) reserved).trans (reservations_set
      (k := { j with state := .running record false }) found queued).symm
  · show s.egress.reservedBytes + record.cap + s.egress.queuedBytes ≤ 268435456
    omega

/-- R80: a QUEUED skip job ends in a unit for which there is room. -/
theorem completeSkip {i : Nat} {j : Job} (found : s.jobs[i]? = some j) (queued : j.state = .queued)
    (room : Config.skipUnitBytes ≤ s.egress.room) : (s.completeSkip i j).EgressTotals := by
  have joined := ok.enqueue (e := .skip (j.tag false)) room
  refine joined.of_same ?_
  rw [State.enqueue_jobs, reservations_eraseIdx found,
    Job.reservation_of_queued queued, Nat.zero_add]
  rfl

/-- R85: a job's reservation is released as it leaves. -/
theorem abandonJob {i : Nat} {j : Job} {record : DispatchRecord} {abandoned : Bool}
    (found : s.jobs[i]? = some j) (running : j.state = .running record abandoned)
    (e : EncodeEngineId) (r : CompletionReport) : (s.abandonJob e i j record r).EgressTotals := by
  obtain ⟨reserved, sizes, fits⟩ := s.egressTotals_iff.1 ok
  rw [reservations_eraseIdx found, Job.reservation_of_running running] at reserved
  refine (egressTotals_iff _).2 ⟨?_, sizes, ?_⟩
  · exact (congrArg (· - record.cap) reserved).trans (Nat.add_sub_cancel_left ..)
  · show s.egress.reservedBytes - record.cap + s.egress.queuedBytes ≤ 268435456
    omega

/-- R84: a unit within its job's cap takes the place of the reservation. -/
theorem completeJob {i : Nat} {j : Job} {record : DispatchRecord} {abandoned : Bool}
    (found : s.jobs[i]? = some j) (running : j.state = .running record abandoned)
    {r : CompletionReport} (size : r.size ≤ record.cap) (e : EncodeEngineId) :
    (s.completeJob e i j record r).EgressTotals := by
  have released := ok.abandonJob found running e r
  obtain ⟨reserved, -, fits⟩ := s.egressTotals_iff.1 ok
  rw [reservations_eraseIdx found, Job.reservation_of_running running] at reserved
  have room : r.size ≤ (s.abandonJob e i j record r).egress.room := by
    rw [EgressPort.le_room_iff]
    show r.size ≤ 268435456 - (s.egress.reservedBytes - record.cap + s.egress.queuedBytes)
    omega
  have joined (content : CodedContent) :=
    released.enqueue (e := .coded (j.tag r.key) r.size content) room
  exact (joined _).of_same rfl rfl rfl rfl

/-- R13 and R86. -/
theorem abortWork (ch : ChannelId) : (s.abortWork ch).EgressTotals := by
  rw [State.abortWork_eq]
  exact ok.of_same (reservations_afterAbort ch s.jobs)

/-- R45: the jobs of a picture are QUEUED. -/
theorem takePicture (pic : DecodedPicture) : (s.takePicture pic).EgressTotals := by
  rw [State.takePicture_eq]
  have marked : (s.markPicture pic).EgressTotals :=
    ok.of_eq (by simp [markPicture]) (by simp [markPicture])
  generalize s.markPicture pic = m at marked ⊢
  refine marked.of_same (reservations_append_of_queued fun j hj => ?_)
  obtain ⟨queued, -⟩ := Channel.of_mem_makeJobs hj
  exact queued

/-! #### The shared operations -/

theorem beginReturn : s.beginReturn.EgressTotals := ok.of_eq

theorem startStall : s.startStall.EgressTotals := by
  obtain ⟨timer, h⟩ := s.startStall_spec
  rw [h]; exact ok.of_same

theorem raise (e : Event) : (s.raise e).EgressTotals := ok.of_eq

theorem raiseAll (es : List Event) : (s.raiseAll es).EgressTotals := ok.of_eq

theorem decideHold : s.decideHold.1.EgressTotals := by
  rcases s.decideHold_spec with same | ⟨-, -, held⟩
  · rw [same]; exact ok
  · rw [held]; exact ok.of_same

theorem settleHold : s.settleHold.EgressTotals := ok.decideHold.raiseAll _

theorem resume : s.resume.EgressTotals :=
  startStall (s := { s with hold := { s.hold with part := .running, idleTimer := none } }) ok

theorem modChannel (ch : ChannelId) (f : Channel → Channel) : (s.modChannel ch f).EgressTotals :=
  ok.of_same

theorem reportRead (o : ReadOutcome) (r : FaultRecord) : (s.reportRead o r).EgressTotals := ok.of_eq

theorem evaluateMarkers (u : MarkedUnit) : (s.evaluateMarkers u).EgressTotals := ok.of_eq

theorem discardPartial (ch : ChannelId) : (s.discardPartial ch).EgressTotals := ok.of_eq

theorem ingestLoss : s.ingestLoss.EgressTotals := by
  have discarded : ((List.finRange 32).foldl State.discardPartial s).EgressTotals :=
    List.foldlRecOn _ _ ok fun _ ok ch _ => ok.discardPartial ch
  unfold State.ingestLoss
  generalize (List.finRange 32).foldl State.discardPartial s = t at discarded ⊢
  exact discarded.of_same

theorem countFrame (f : FrameCounters → FrameCounters) : (s.countFrame f).EgressTotals := ok.of_same

theorem headerFailure : s.headerFailure.EgressTotals := by
  have lost := (ok.countFrame FrameCounters.countHeader).ingestLoss
  unfold State.headerFailure State.resynchronise
  generalize (s.countFrame FrameCounters.countHeader).ingestLoss = t at lost ⊢
  exact lost.of_same

/-! #### Media frames and decodes -/

theorem acceptPicture (ch : ChannelId) (slot : SlotId) (time : Nat) (flags : BitVec 16) :
    (s.acceptPicture ch slot time flags).EgressTotals := by
  unfold State.acceptPicture
  dsimp only
  split
  · exact ok.of_same
  · exact ok.of_same

theorem startPicture (p : StartPosition) (f : MediaFrame) (slot : SlotId) :
    (s.startPicture p f slot).EgressTotals := by
  have filled : EgressTotals { s.discardPartial f.channel with
      pool := (s.discardPartial f.channel).pool.fill slot f.payload.bytes } :=
    (ok.discardPartial f.channel).of_same
  unfold State.startPicture
  split
  · cases p with
    | first => exact filled.modChannel _ _
    | only => exact filled.acceptPicture _ _ _ _
  · exact ok.of_same

theorem startPictureFailed (f : MediaFrame) (slot : SlotId) :
    (s.startPictureFailed f slot).EgressTotals := by
  have counted : ((s.releaseSlot slot).countFrame FrameCounters.countPayload).EgressTotals :=
    ok.of_same
  unfold State.startPictureFailed
  dsimp only
  split
  · exact (counted.discardPartial _).modChannel _ _
  · exact counted

theorem continuePicture (p : ContinuationPosition) (f : MediaFrame) :
    (s.continuePicture p f).EgressTotals := by
  unfold State.continuePicture
  dsimp only
  split
  · next part _ _ =>
    have appended : EgressTotals { s with pool := s.pool.append part.slot f.payload.bytes } :=
      ok.of_same
    split
    · exact ok.discardPartial _
    · split
      · exact ok.discardPartial _
      · cases p with
        | middle => exact appended.modChannel _ _
        | last => exact (appended.modChannel _ _).acceptPicture _ _ _ _
  · exact ok.countFrame _

theorem continuationFailed (f : MediaFrame) : (s.continuationFailed f).EgressTotals := by
  unfold State.continuationFailed
  dsimp only
  split
  · exact (ok.countFrame _).discardPartial _
  · exact ok.countFrame _

theorem startSmall (k : SmallKind) (p : Position) (f : MediaFrame) :
    (s.startSmall k p f).EgressTotals := by
  unfold State.startSmall State.acceptSmall
  dsimp only
  split
  · split
    · exact ok.of_same
    · exact ok.of_same
  · exact ok.countFrame _

theorem smallFailed (p : Position) (f : MediaFrame) : (s.smallFailed p f).EgressTotals := by
  unfold State.smallFailed
  dsimp only
  split
  · exact (ok.countFrame _).modChannel _ _
  · exact ok.countFrame _

theorem handOver (e : DecodeEngineId) (pic : DecodedPicture) : (s.handOver e pic).EgressTotals := by
  unfold State.handOver
  split
  · exact ok.of_same
  · split
    · have taken := ok.takePicture pic
      generalize s.takePicture pic = t at taken ⊢
      exact taken.of_same
    · unfold State.holdPicture
      cases pic.source <;> exact ok.of_same

theorem finishDecode (e : DecodeEngineId) (d : DecodeEntry) (good : Bool) :
    (s.finishDecode e d good).EgressTotals := by
  have concealed : (s.conceal d).EgressTotals := ok.of_same
  unfold State.finishDecode
  dsimp only
  split
  · exact ok.handOver _ _
  · exact concealed.handOver _ _

/-! #### The ends of channels and the audio path -/

theorem endChannel (ch : ChannelId) (outcome : ChannelOutcome)
    (room : Config.recordBytes ≤ s.egress.room) : (s.endChannel ch outcome).EgressTotals :=
  (ok.enqueue (e := .ended ((s.channel ch).endRecord ch outcome)) room).of_same

theorem finishAbort (ch : ChannelId) : (s.finishAbort ch).1.EgressTotals := by
  unfold State.finishAbort
  split
  · next due =>
    obtain ⟨-, room⟩ := Bool.and_eq_true_iff.1 due
    exact ok.endChannel ch .aborted (of_decide_eq_true room)
  · exact ok

theorem sendAudio (u : SmallUnit) (room : 2 * (samplesOf u.payload).length ≤ s.egress.room) :
    (s.sendAudio u).EgressTotals :=
  enqueue (s := s.modChannel _ _) ok.of_same (by simpa [EgressEntry.size] using room)

end State.EgressTotals

/-! ### The commands that are not directives -/

/-- Whatever next state a command answers has the property. -/
def Reaches (P : State → Prop) (o : Host.Outcome State Fault Refusal) : Prop :=
  ∀ t, o = .next t → P t

namespace Reaches
variable {P : State → Prop} {s : State} {o o' : Host.Outcome State Fault Refusal}

theorem next (h : P s) : Reaches P (.next s) := by
  intro t ht; cases ht; exact h

theorem fault (r : Fault) : Reaches P (.fault r) := fun _ h => nomatch h

theorem ite {c : Prop} [Decidable c] (h : Reaches P o) (k : Reaches P o') :
    Reaches P (if c then o else o') := by
  split
  · exact h
  · exact k

end Reaches

section Commands
variable {s : State} (ok : s.EgressTotals)
include ok

theorem execPictureStartFrame_totals (p : StartPosition) (f : MediaFrame) :
    Reaches State.EgressTotals (execPictureStartFrame p f s) := by
  have ok := ok.beginReturn
  refine .ite (.next ok) (.ite (.next ok.headerFailure) ?_)
  split
  · exact .next (ok.countFrame _)
  · next slot rest _ =>
    have spent : State.EgressTotals { s.beginReturn with
        pool := { s.beginReturn.pool with reserved := rest } } := ok.of_same
    exact .ite (.next (spent.startPicture p f slot)) (.next (spent.startPictureFailed f slot))

theorem execPictureContinuationFrame_totals (p : ContinuationPosition) (f : MediaFrame) :
    Reaches State.EgressTotals (execPictureContinuationFrame p f s) :=
  have ok := ok.beginReturn
  .ite (.next ok) (.ite (.next ok.headerFailure)
    (.ite (.next (ok.continuePicture p f)) (.next (ok.continuationFailed f))))

theorem execSmallUnitFrame_totals (k : SmallKind) (p : Position) (f : MediaFrame) :
    Reaches State.EgressTotals (execSmallUnitFrame k p f s) := by
  have ok := ok.beginReturn
  have spent : State.EgressTotals { s.beginReturn with ingest := { s.beginReturn.ingest with
      smallOutstanding := s.beginReturn.ingest.smallOutstanding - 1 } } := ok.of_same
  exact .ite (.next ok) (.ite (.next ok.headerFailure) (.ite (.next (ok.countFrame _))
    (.ite (.next (spent.startSmall k p f)) (.next (spent.smallFailed p f)))))

theorem execUnitKindNoneFrame_totals (p : Position) (f : MediaFrame) :
    Reaches State.EgressTotals (execUnitKindNoneFrame p f s) :=
  have ok := ok.beginReturn
  .ite (.next ok) (.ite (.next ok.headerFailure)
    (.ite (.next (ok.countFrame _)) (.next (ok.countFrame _))))

theorem execHeaderCheckFailure_totals (header : List Byte) :
    Reaches State.EgressTotals (execHeaderCheckFailure header s) :=
  .ite (.next ok.beginReturn.headerFailure) (.next ok.beginReturn)

theorem execIngestLinkUp_totals : Reaches State.EgressTotals (execIngestLinkUp s) :=
  .ite (.next ok.beginReturn) (.next ok.beginReturn.of_same)

theorem execIngestLinkDown_totals (inHand : Nat) :
    Reaches State.EgressTotals (execIngestLinkDown inHand s) := by
  have lost := ok.beginReturn.ingestLoss
  unfold execIngestLinkDown
  dsimp only
  generalize s.beginReturn.ingestLoss = t at lost ⊢
  exact .ite (.next ok.beginReturn) (.next lost.of_same)

theorem execPictureCreditGrant_totals : Reaches State.EgressTotals (execPictureCreditGrant s) :=
  .ite (.next ok) (.next ok.of_same)

theorem execSmallCreditGrant_totals : Reaches State.EgressTotals (execSmallCreditGrant s) :=
  .ite (.next ok) (.next ok.of_same)

theorem execDirectiveCreditGrant_totals : Reaches State.EgressTotals (execDirectiveCreditGrant s) :=
  .ite (.next ok) (.next ok.of_same)

theorem execCreditFrameSent_totals : Reaches State.EgressTotals (execCreditFrameSent s) :=
  .ite (.next ok.beginReturn.of_same) (.next ok.beginReturn)

theorem execReportFrameSent_totals : Reaches State.EgressTotals (execReportFrameSent s) := by
  unfold execReportFrameSent
  dsimp only
  split
  · exact .next ok.beginReturn.of_same
  · exact .next ok.beginReturn.of_same
  · exact .next ok.beginReturn

theorem execEgressCredit_totals (f : RawFrame) :
    Reaches State.EgressTotals (execEgressCredit f s) :=
  .ite (.next ok.beginReturn.of_same) (.next ok.beginReturn)

theorem execEgressLinkUp_totals : Reaches State.EgressTotals (execEgressLinkUp s) :=
  .next ok.beginReturn.of_same

theorem execEgressLinkDown_totals : Reaches State.EgressTotals (execEgressLinkDown s) :=
  .ite (.next ok.beginReturn) (.next (.startStall ok.beginReturn.of_same))

theorem execEgressRead_totals (o : ReadOutcome) :
    Reaches State.EgressTotals (execEgressRead o s) := by
  unfold execEgressRead
  dsimp only
  split
  · exact .next (.startStall (ok.beginReturn.reportRead o _).of_same)
  · exact .next ok.beginReturn

theorem execEgressFrameBegin_totals : Reaches State.EgressTotals (execEgressFrameBegin s) := by
  unfold execEgressFrameBegin
  dsimp only
  split
  · exact .ite (.next ok.beginReturn.of_same) (.next ok.beginReturn)
  · exact .next ok.beginReturn

theorem execEgressFrameSent_totals : Reaches State.EgressTotals (execEgressFrameSent s) := by
  unfold execEgressFrameSent
  dsimp only
  split
  · exact .next (.startStall ok.beginReturn.of_same)
  · next head _ =>
    exact .ite (.next (ok.beginReturn.finishHead head).settleHold.startStall)
      (.next (.startStall ok.beginReturn.of_same))
  · exact .next ok.beginReturn

theorem execStallTimerExpiry_totals : Reaches State.EgressTotals (execStallTimerExpiry s) :=
  .ite (.next (.raise ok.beginReturn.of_same _)) (.next ok.beginReturn)

theorem execDecodeDispatch_totals : Reaches State.EgressTotals (execDecodeDispatch s) := by
  unfold execDecodeDispatch
  dsimp only
  split
  · exact .next ok.beginReturn.of_same
  · exact .next ok.beginReturn

theorem execDecodeCompletion_totals (e : DecodeEngineId) (o : ReadOutcome) (decodable : Bool) :
    Reaches State.EgressTotals (execDecodeCompletion e o decodable s) := by
  unfold execDecodeCompletion
  dsimp only
  split
  · next d _ _ =>
    have drawn (good : Bool) :
        ((s.beginReturn.reportRead o d.faultRecord).drawDecoded d good).EgressTotals := ok.of_eq
    exact .ite (.next ((drawn _).finishDecode e d _).settleHold)
      (.next (State.EgressTotals.settleHold (drawn _).of_same))
  · exact .next ok.beginReturn

theorem execTakeHeldPicture_totals : Reaches State.EgressTotals (execTakeHeldPicture s) := by
  unfold execTakeHeldPicture
  dsimp only
  split
  · exact .next ok.beginReturn
  · split
    · next pic _ =>
      have taken := ok.beginReturn.takePicture pic
      generalize s.beginReturn.takePicture pic = t at taken ⊢
      exact .ite (.next taken.of_same) (.next ok.beginReturn)
    · exact .next ok.beginReturn

theorem execEngineDispatch_totals : Reaches State.EgressTotals (execEngineDispatch s) := by
  have ok := ok.beginReturn
  unfold execEngineDispatch
  dsimp only
  split
  · next selected =>
    split
    · exact .next ok
    · next found =>
      obtain ⟨queued, -⟩ := selectJob_spec selected found
      split
      · split
        · exact .next ok
        · next room =>
          split
          · exact .fault _
          · exact .next (ok.startJob found queued (not_lt.1 room) _)
      · exact .next ok
  · exact .next ok

theorem execSkipCompletion_totals (ch : ChannelId) (r : Fin 4) :
    Reaches State.EgressTotals (execSkipCompletion ch r s) := by
  have ok := ok.beginReturn
  unfold execSkipCompletion
  dsimp only
  split
  · next eligible =>
    split
    · next found =>
      split
      · next due =>
        obtain ⟨-, room⟩ := Bool.and_eq_true_iff.1 due
        exact .next (ok.completeSkip found (eligibleOf_spec eligible found)
          (of_decide_eq_true room))
      · exact .next ok
    · exact .next ok
  · exact .next ok

/-- R67: an engine's report names a size within the cap. -/
theorem execEncodeCompletion_totals (e : EncodeEngineId) (r : CompletionReport) :
    Reaches State.EgressTotals (execEncodeCompletion e r s) := by
  have ok := ok.beginReturn
  unfold execEncodeCompletion
  dsimp only
  split
  · next on_engine =>
    obtain ⟨found, running, -⟩ := runningOn_spec on_engine
    split
    · next possible =>
      obtain ⟨-, size, -⟩ := (reportPossible_iff _ _ _ _).1 possible
      exact .ite (.next (ok.completeJob found running size e).settleHold)
        (.next (ok.abandonJob found running e r).settleHold)
    · exact .next ok
  · exact .next ok

theorem execEncodeEngineRead_totals (e : EncodeEngineId) (r : EngineRead) (o : ReadOutcome) :
    Reaches State.EgressTotals (execEncodeEngineRead e r o s) := by
  have ok := ok.beginReturn
  unfold execEncodeEngineRead
  dsimp only
  split
  · split
    · exact .next ok
    · exact .next (ok.reportRead o _).of_same
  · exact .next ok

theorem execSegmentRecord_totals (ch : ChannelId) :
    Reaches State.EgressTotals (execSegmentRecord ch s) := by
  have ok := ok.beginReturn
  unfold execSegmentRecord
  dsimp only
  split
  · exact .next ok
  · next record _ =>
    split
    · exact .next ok
    · next room =>
      exact .next ((ok.enqueue (e := .segment record) (not_lt.1 room)).modChannel _ _)

theorem execFinalSegmentClose_totals (ch : ChannelId) :
    Reaches State.EgressTotals (execFinalSegmentClose ch s) := by
  unfold execFinalSegmentClose
  dsimp only
  split
  · exact .next ok.beginReturn
  · exact .ite (.next (ok.beginReturn.modChannel _ _)) (.next ok.beginReturn)

theorem execDrainCompletion_totals (ch : ChannelId) :
    Reaches State.EgressTotals (execDrainCompletion ch s) := by
  unfold execDrainCompletion
  dsimp only
  split
  · next due =>
    obtain ⟨-, room⟩ := Bool.and_eq_true_iff.1 due
    exact .next ((ok.beginReturn.endChannel ch .completed (of_decide_eq_true room)).raise _)
  · exact .next ok.beginReturn

theorem execAbortCompletion_totals (ch : ChannelId) :
    Reaches State.EgressTotals (execAbortCompletion ch s) :=
  .next ((ok.beginReturn.finishAbort ch).raiseAll _)

theorem execProcessAudioUnit_totals : Reaches State.EgressTotals (execProcessAudioUnit s) := by
  have ok := ok.beginReturn
  unfold execProcessAudioUnit
  dsimp only
  split
  · next u _ _ =>
    split
    · exact .next ok
    · have evaluated := ok.evaluateMarkers (s.beginReturn.smallMarked u 0)
      have store := s.beginReturn.evaluateMarkers_egress (s.beginReturn.smallMarked u 0)
      generalize s.beginReturn.evaluateMarkers (s.beginReturn.smallMarked u 0) = t
        at evaluated store ⊢
      refine .ite ?_ (.next evaluated.of_same)
      split
      · exact .next ok
      · next room =>
        exact .next (evaluated.sendAudio u (store ▸ not_lt.1 room)).of_same
  · exact .next ok

theorem execProcessCueUnit_totals : Reaches State.EgressTotals (execProcessCueUnit s) := by
  have ok := ok.beginReturn
  unfold execProcessCueUnit
  dsimp only
  split
  · next u _ _ =>
    split
    · exact .next ok
    · have evaluated := ok.evaluateMarkers
        (s.beginReturn.smallMarked u (BitVec.ofNat 32 (beNat u.payload)))
      generalize s.beginReturn.evaluateMarkers _ = t at evaluated ⊢
      exact .ite (.next evaluated.of_same) (.next ok.of_same)
  · exact .next ok

theorem execIdleTimerExpiry_totals : Reaches State.EgressTotals (execIdleTimerExpiry s) :=
  .ite (.next (ok.beginReturn.resume.raise _)) (.next ok.beginReturn)

end Commands

/-! ### Directives -/

section Directives
variable {s : State} (ok : s.EgressTotals) (b : List Byte)
include ok

theorem takeSetLink_totals : (takeSetLink b s).1.EgressTotals := by
  unfold takeSetLink
  dsimp only
  split
  · exact ok
  · exact .startStall ok.of_same

theorem takeLoadProfile_totals : (takeLoadProfile b s).1.EgressTotals := by
  rcases takeLoadProfile_cases b s with same | ⟨p, -, -, stored⟩
  · rw [same]; exact ok
  · rw [stored]; exact ok.of_same

theorem takeReadProfile_totals : (takeReadProfile b s).1.EgressTotals := by
  unfold takeReadProfile; split <;> exact ok

theorem takeReadWindow_totals : (takeReadWindow b s).1.EgressTotals := by
  unfold takeReadWindow; split <;> exact ok

theorem takeReadMarker_totals : (takeReadMarker b s).1.EgressTotals := by
  unfold takeReadMarker; split <;> exact ok

theorem takeQueryChannel_totals : (takeQueryChannel b s).1.EgressTotals := by
  unfold takeQueryChannel; split <;> exact ok

theorem takeLoadWindow_totals : (takeLoadWindow b s).1.EgressTotals := by
  unfold takeLoadWindow
  split
  · exact ok
  · split
    · exact ok
    · exact ok.of_same

theorem takeLoadMarker_totals : (takeLoadMarker b s).1.EgressTotals := by
  unfold takeLoadMarker
  split
  · exact ok
  · split
    · exact ok
    · exact ok.of_same

theorem takeOpen_totals : (takeOpen b s).1.EgressTotals := by
  unfold takeOpen
  split
  · exact ok
  · exact ok
  · split
    · exact ok
    · dsimp only
      split
      · exact ok
      · split
        · exact ok
        · split
          · exact ok
          · exact ok.of_same

theorem takeClose_totals : (takeClose b s).1.EgressTotals := by
  unfold takeClose
  split
  · exact ok
  · split
    · exact ok
    · exact ok
    · exact ok
    · exact (ok.modChannel _ _).discardPartial _

theorem takeAbort_totals : (takeAbort b s).1.EgressTotals := by
  cases hch : objectNumber 32 (bodyNat b 0 1) with
  | none => rw [takeAbort_of_badChannel hch]; exact ok
  | some ch =>
    have aborted := (ok.abortWork ch).finishAbort ch
    cases hs : (s.channel ch).state with
    | closed => rw [takeAbort_of_closed hch hs]; exact ok
    | aborting => rw [takeAbort_of_aborting hch hs]; exact ok
    | running => rw [takeAbort_of_live hch (.inl hs)]; exact aborted
    | draining => rw [takeAbort_of_live hch (.inr hs)]; exact aborted

theorem takeHold_totals : (takeHold b s).1.EgressTotals := by
  have entered (wait : Nat) (egressEmpty : Bool) :
      (s.enterHold wait egressEmpty).1.EgressTotals := by
    have waiting : State.EgressTotals { s with
        hold := { part := .holdPending, idleTimer := some wait, egressEmpty := egressEmpty } } :=
      ok.of_same
    unfold State.enterHold
    dsimp only
    split
    · exact waiting.decideHold
    · split
      · exact waiting.resume
      · exact waiting
  unfold takeHold
  split
  · exact ok
  · split
    · exact ok
    · split
      · exact ok
      · exact entered _ _

theorem takeRelease_totals : (takeRelease b s).1.EgressTotals := by
  unfold takeRelease
  split
  · exact ok
  · exact ok.resume
  · exact ok.resume

end Directives

/-- R133: with no jobs and an empty store both totals are 0. -/
theorem State.egressTotals_of_empty {s : State} (jobs : s.jobs = []) (queue : s.egress.queue = [])
    (reserved : s.egress.reservedBytes = 0) (queued : s.egress.queuedBytes = 0) :
    s.EgressTotals := by
  rw [egressTotals_iff, jobs, queue, reserved, queued]
  exact ⟨rfl, rfl, Nat.zero_le _⟩

section Admission
variable {s : State} (ok : s.EgressTotals)
include ok

/-- R135 to R137 and R144: what follows a directive frame's admission. -/
theorem reaches_of_admission (f : DirectiveFrame) {g : State → State}
    (h : ∀ u : State, u.EgressTotals → (g u).EgressTotals) :
    Reaches State.EgressTotals (match s.beginReturn.admitDirective f with
      | .ended t => .next t
      | .admitted t => .next (g t)) := by
  have ok := ok.beginReturn
  rcases s.beginReturn.admitDirective_cases f with failed | ⟨i, -, ended | admitted⟩
  · rw [failed]; exact .next ok.headerFailure
  · rw [ended]; exact .next ok.of_same
  · rw [admitted]; exact .next (h _ ok.of_same)

/-- A directive frame's command keeps the totals when the directive's own rule does. -/
theorem runDirective_totals {act : List Byte → State → State × Answer}
    (h : ∀ {u : State}, u.EgressTotals → ∀ b, (act b u).1.EgressTotals) (code : Byte) (n : Nat)
    (f : DirectiveFrame) : Reaches State.EgressTotals (runDirective code n act f s) := by
  refine reaches_of_admission ok f (g := fun u => u.takeDirective code n act f) fun u ok => ?_
  unfold State.takeDirective
  split
  · exact ok.of_same
  · exact State.EgressTotals.raiseAll (h ok f.payload.bytes).of_same _

theorem execUnknownDirective_totals (code : Byte) (f : DirectiveFrame) :
    Reaches State.EgressTotals (execUnknownDirective code f s) :=
  .ite (.next ok) (reaches_of_admission ok f fun _ ok => ok.of_same)

/-! ### The statement (section 9.1) -/

/-- Every command keeps the totals. -/
theorem exec_totals (c : Instr) : Reaches State.EgressTotals (exec c s) := by
  cases c with
  | setLink f => exact runDirective_totals ok takeSetLink_totals _ _ f
  | queryPart f => exact runDirective_totals ok (fun ok _ => ok) _ _ f
  | loadProfile f => exact runDirective_totals ok takeLoadProfile_totals _ _ f
  | readProfile f => exact runDirective_totals ok takeReadProfile_totals _ _ f
  | loadWindow f => exact runDirective_totals ok takeLoadWindow_totals _ _ f
  | readWindow f => exact runDirective_totals ok takeReadWindow_totals _ _ f
  | loadMarker f => exact runDirective_totals ok takeLoadMarker_totals _ _ f
  | readMarker f => exact runDirective_totals ok takeReadMarker_totals _ _ f
  | clearMatch f => exact runDirective_totals ok (fun ok _ => ok.of_same) _ _ f
  | openChannel f => exact runDirective_totals ok takeOpen_totals _ _ f
  | closeChannel f => exact runDirective_totals ok takeClose_totals _ _ f
  | abortChannel f => exact runDirective_totals ok takeAbort_totals _ _ f
  | queryChannel f => exact runDirective_totals ok takeQueryChannel_totals _ _ f
  | readFaultLog f => exact runDirective_totals ok (fun ok _ => ok) _ _ f
  | clearFaultLog f => exact runDirective_totals ok (fun ok _ => ok.of_same) _ _ f
  | hold f => exact runDirective_totals ok takeHold_totals _ _ f
  | release f => exact runDirective_totals ok takeRelease_totals _ _ f
  | restart f =>
    exact runDirective_totals ok (fun _ _ => State.egressTotals_of_empty rfl rfl rfl rfl) _ _ f
  | unknownDirective code f => exact execUnknownDirective_totals ok code f
  | pictureStartFrame p f => exact execPictureStartFrame_totals ok p f
  | pictureContinuationFrame p f => exact execPictureContinuationFrame_totals ok p f
  | smallUnitFrame k p f => exact execSmallUnitFrame_totals ok k p f
  | headerCheckFailure header => exact execHeaderCheckFailure_totals ok header
  | ingestLinkUp => exact execIngestLinkUp_totals ok
  | ingestLinkDown n => exact execIngestLinkDown_totals ok n
  | pictureCreditGrant => exact execPictureCreditGrant_totals ok
  | smallCreditGrant => exact execSmallCreditGrant_totals ok
  | directiveCreditGrant => exact execDirectiveCreditGrant_totals ok
  | creditFrameSent => exact execCreditFrameSent_totals ok
  | reportFrameSent => exact execReportFrameSent_totals ok
  | egressCredit f => exact execEgressCredit_totals ok f
  | egressLinkUp => exact execEgressLinkUp_totals ok
  | egressLinkDown => exact execEgressLinkDown_totals ok
  | egressRead o => exact execEgressRead_totals ok o
  | egressFrameBegin => exact execEgressFrameBegin_totals ok
  | egressFrameSent => exact execEgressFrameSent_totals ok
  | stallTimerExpiry => exact execStallTimerExpiry_totals ok
  | decodeDispatch => exact execDecodeDispatch_totals ok
  | decodeCompletion e o d => exact execDecodeCompletion_totals ok e o d
  | takeHeldPicture => exact execTakeHeldPicture_totals ok
  | engineDispatch => exact execEngineDispatch_totals ok
  | skipCompletion ch r => exact execSkipCompletion_totals ok ch r
  | encodeCompletion e r => exact execEncodeCompletion_totals ok e r
  | segmentRecord ch => exact execSegmentRecord_totals ok ch
  | finalSegmentClose ch => exact execFinalSegmentClose_totals ok ch
  | drainCompletion ch => exact execDrainCompletion_totals ok ch
  | abortCompletion ch => exact execAbortCompletion_totals ok ch
  | processCueUnit => exact execProcessCueUnit_totals ok
  | processAudioUnit => exact execProcessAudioUnit_totals ok
  | idleTimerExpiry => exact execIdleTimerExpiry_totals ok
  | powerOnReset => exact .next (State.egressTotals_of_empty rfl rfl rfl rfl)
  | encodeEngineRead e r o => exact execEncodeEngineRead_totals ok e r o
  | unitKindNoneFrame p f => exact execUnitKindNoneFrame_totals ok p f

end Admission

/-- Settles O5: a step is a command on the rest of the queue, which plays no part in the totals. -/
theorem egressTotalsKept : Obligations.EgressTotalsKept := by
  intro s t ok h
  unfold step at h
  split at h
  · cases h; exact ok
  · next c rest _ =>
    have waiting : State.EgressTotals { s with pending := rest } := ok.of_same
    exact exec_totals waiting c t h

end Sys2Proof.Machine

/-! SUPPORT. The ingest link (sections 10.1, 10.2, 10.4 and 10.5): what the return direction carries,
how many credits are granted, what the loss of the link voids, and the directive frames that are
dropped; each followed by its statement. -/

namespace Sys2Proof.Machine

/-! ### What the begin of a return frame leaves alone (R141, R151) -/

@[simp] theorem State.beginReturn_ingestLink (s : State) :
    s.beginReturn.ingest.link = s.ingest.link := by
  obtain ⟨w, h⟩ := s.beginReturn_spec; rw [h]
@[simp] theorem State.beginReturn_smallOutstanding (s : State) :
    s.beginReturn.ingest.smallOutstanding = s.ingest.smallOutstanding := by
  obtain ⟨w, h⟩ := s.beginReturn_spec; rw [h]
@[simp] theorem State.beginReturn_directiveUnspent (s : State) :
    s.beginReturn.ingest.directiveUnspent = s.ingest.directiveUnspent := by
  obtain ⟨w, h⟩ := s.beginReturn_spec; rw [h]
@[simp] theorem State.beginReturn_inHand (s : State) :
    s.beginReturn.ingest.inHand = s.ingest.inHand := by
  obtain ⟨w, h⟩ := s.beginReturn_spec; rw [h]
@[simp] theorem State.beginReturn_creditQueue (s : State) :
    s.beginReturn.ingest.creditQueue = s.ingest.creditQueue := by
  obtain ⟨w, h⟩ := s.beginReturn_spec; rw [h]
@[simp] theorem State.beginReturn_ingestCounters (s : State) :
    s.beginReturn.ingest.counters = s.ingest.counters := by
  obtain ⟨w, h⟩ := s.beginReturn_spec; rw [h]

/-- R146: a frame is counted on the counters as they stood. -/
theorem State.beginReturn_countFrame (s : State) (count : FrameCounters → FrameCounters) :
    s.beginReturn.countFrame count = { s.beginReturn with
      ingest := { s.beginReturn.ingest with counters := count s.ingest.counters } } := by
  rw [State.countFrame, s.beginReturn_ingestCounters]

/-! ### The return direction (R141, R147, R151) -/

theorem State.beginReturn_of_down {s : State} (down : s.ingest.link = .down) :
    s.beginReturn = s := by
  rw [State.beginReturn, down]; rfl

/-- R141: a direction that carries a frame begins no other. -/
theorem State.beginReturn_of_busy {s : State} (busy : s.ingest.wire ≠ .idle) :
    s.beginReturn = s :=
  if_neg (by simp [busy])

section Return
variable {s : State} (up : s.ingest.link = .up)
include up

/-- R141: a waiting CREDIT frame is on the wire, begun now or before. -/
theorem State.beginReturn_wire_credit {g : CreditFrame} {rest : List CreditFrame}
    (waiting : s.ingest.creditQueue = g :: rest)
    (free : s.ingest.wire = .idle ∨ s.ingest.wire = .credit) :
    s.beginReturn.ingest.wire = .credit := by
  rcases free with idle | credit
  · simp [State.beginReturn, up, idle, waiting]
  · rw [State.beginReturn_of_busy (by simp [credit]), credit]

/-- R151: so is a waiting REPORT frame, no CREDIT frame waiting at its begin. -/
theorem State.beginReturn_wire_report {r : Report} {rest : List Report}
    (waiting : s.reports.queue = r :: rest)
    (free : (s.ingest.wire = .idle ∧ s.ingest.creditQueue = []) ∨ s.ingest.wire = .report) :
    s.beginReturn.ingest.wire = .report := by
  rcases free with ⟨idle, none⟩ | report
  · simp [State.beginReturn, up, idle, none, waiting]
  · rw [State.beginReturn_of_busy (by simp [report]), report]

end Return

theorem exec_creditFrameSent_of_credit {s : State}
    (credit : s.beginReturn.ingest.wire = .credit) :
    exec .creditFrameSent s = .next { s with ingest := { s.ingest with
      wire := .idle, creditQueue := s.ingest.creditQueue.tail } } := by
  obtain ⟨w, h⟩ := s.beginReturn_spec
  simp only [exec, execCreditFrameSent, credit, BEq.rfl, if_true]
  rw [h]

theorem exec_reportFrameSent_of_report {s : State}
    (report : s.beginReturn.ingest.wire = .report) :
    exec .reportFrameSent s = .next { s with
      ingest := { s.ingest with wire := .idle }
      reports := { s.reports with queue := s.reports.queue.tail } } := by
  obtain ⟨w, h⟩ := s.beginReturn_spec
  simp only [exec, execReportFrameSent, report]
  rw [h]

theorem exec_reportFrameSent_of_detached {s : State} (detached : s.ingest.wire = .detached) :
    exec .reportFrameSent s = .next { s with ingest := { s.ingest with wire := .idle } } := by
  simp only [exec, execReportFrameSent,
    State.beginReturn_of_busy (s := s) (by simp [detached]), detached]

/-- Settles O43: which frame is on the wire decides which end the command is of. -/
theorem returnFramesSent : Obligations.ReturnFramesSent := by
  intro s up
  refine ⟨fun g rest waiting free => ?_, fun r rest waiting free => ?_,
    exec_reportFrameSent_of_detached⟩
  · rw [exec_creditFrameSent_of_credit (State.beginReturn_wire_credit up waiting free), waiting]
    rfl
  · rw [exec_reportFrameSent_of_report (State.beginReturn_wire_report up waiting free), waiting]
    rfl

/-- Settles O41: a DOWN link carries nothing, so nothing is begun before the ingest link comes UP. -/
theorem linksComeUp : Obligations.LinksComeUp := by
  refine fun s => ⟨fun down => ?_, ?_⟩
  · simp only [exec, execIngestLinkUp, State.beginReturn_of_down down, down]
    rfl
  · simp only [exec, execEgressLinkUp, State.beginReturn_egress]

/-! ### Credit grants (R138 to R140) -/

theorem State.pictureGrant_eq (s : State) :
    s.pictureGrant = if s.ingest.link = .up ∧ s.hold.part = .running then
      min (s.settings.pictureLimit - s.pool.reserved.length) (s.pool.free.length - 8) else 0 := by
  simp only [State.pictureGrant, Bool.and_eq_true, beq_iff_eq]; rfl

theorem State.smallGrant_eq (s : State) :
    s.smallGrant = if s.ingest.link = .up ∧ s.hold.part = .running then
      min (s.settings.smallLimit - s.ingest.smallOutstanding)
        (128 - s.small.length - s.ingest.smallOutstanding) else 0 := by
  simp only [State.smallGrant, Bool.and_eq_true, beq_iff_eq]; rfl

theorem State.directiveGrant_eq (s : State) :
    s.directiveGrant = if s.ingest.link = .up then
      32 - (s.reports.queue.length + (s.ingest.directiveUnspent + s.ingest.inHand)) else 0 := by
  simp only [State.directiveGrant, beq_iff_eq]; rfl

/-- R138 and R139: when the condition for a grant to a RUNNING part fails. -/
theorem grant_eq_zero {s : State} {n : Nat}
    (h : s.ingest.link = .down ∨ s.hold.part ≠ .running ∨ n = 0) :
    (if s.ingest.link = .up ∧ s.hold.part = .running then n else 0) = 0 := by
  rcases h with down | waiting | rfl
  · rw [down]; exact if_neg (by simp)
  · exact if_neg fun ⟨_, running⟩ => waiting running
  · exact ite_self _

/-- Settles O42: each command grants what its function counts, and nothing when that is 0. -/
theorem creditsGranted : Obligations.CreditsGranted := by
  constructor
  · intro s n
    refine ⟨fun none => if_pos (s.pictureGrant_eq.trans (grant_eq_zero none)),
      fun up running pos => ?_⟩
    have granted : s.pictureGrant = n := s.pictureGrant_eq.trans (if_pos ⟨up, running⟩)
    have within : n ≤ s.pool.free.length := (Nat.min_le_right _ _).trans (Nat.sub_le _ _)
    refine ⟨s.pool.reserveMany n, ?_, SlotPool.reserveMany_spec n s.pool within⟩
    rw [← granted] at pos ⊢
    exact if_neg pos.ne'
  · intro s n d
    refine ⟨fun none => if_pos (s.smallGrant_eq.trans (grant_eq_zero none)),
      fun up running pos => ?_, fun none => if_pos ?_, fun up pos => ?_⟩
    · have granted : s.smallGrant = n := s.smallGrant_eq.trans (if_pos ⟨up, running⟩)
      rw [← granted] at pos ⊢
      exact if_neg pos.ne'
    · rw [s.directiveGrant_eq]
      rcases none with down | zero
      · rw [down]; rfl
      · exact (if_congr Iff.rfl zero rfl).trans (ite_self _)
    · have granted : s.directiveGrant = d := s.directiveGrant_eq.trans (if_pos up)
      rw [← granted] at pos ⊢
      exact if_neg pos.ne'

/-! ### The loss of the link and a header check failure (R145, R147) -/

/-- R147: the slots of the partial pictures of some channels, in their order. -/
def State.partialSlotsOf (s : State) (l : List ChannelId) : List SlotId :=
  l.flatMap (fun ch => (s.channel ch).partialSlots)

/-- R94: the channel records once the partial pictures of some channels are discarded. -/
def State.withoutPartials (s : State) (l : List ChannelId) : Vector Channel 32 :=
  Vector.ofFn (fun ch => if ch ∈ l then (s.channel ch).withoutPartial else s.channel ch)

theorem State.partialSlotsOf_eq_filterMap (s : State) (l : List ChannelId) :
    s.partialSlotsOf l =
      l.filterMap (fun ch => (s.channel ch).assembly.map (fun part => part.slot)) := by
  rw [List.filterMap_eq_flatMap_toList]
  refine List.flatMap_congr fun ch _ => ?_
  rw [Channel.partialSlots]
  cases (s.channel ch).assembly <;> rfl

theorem State.beginReturn_partialSlotsOf (s : State) (l : List ChannelId) :
    s.beginReturn.partialSlotsOf l = s.partialSlotsOf l := by
  simp only [State.partialSlotsOf, State.beginReturn_channel]

theorem State.beginReturn_withoutPartials (s : State) (l : List ChannelId) :
    s.beginReturn.withoutPartials l = s.withoutPartials l := by
  simp only [State.withoutPartials, State.beginReturn_channel]

/-- R94 and R147: partial pictures discarded one after another. No channel occurs twice, so each
record is found as it was. -/
theorem State.foldl_discardPartial {l : List ChannelId} (distinct : l.Nodup) :
    ∀ s : State, l.foldl State.discardPartial s = { s with
      pool := s.pool.releaseAll (s.partialSlotsOf l), channels := s.withoutPartials l } := by
  induction l with
  | nil =>
    intro s
    have same : s.withoutPartials [] = s.channels := by
      ext i hi; simp [State.withoutPartials, State.channel]
    rw [same]; rfl
  | cons a l ih =>
    intro s
    obtain ⟨fresh, distinct⟩ := List.nodup_cons.1 distinct
    have discarded (ch : ChannelId) : (s.discardPartial a).channel ch =
        if ch = a then (s.channel a).withoutPartial else s.channel ch := by
      rw [State.discardPartial_eq, State.channel_modChannel]; rfl
    have slots : (s.discardPartial a).partialSlotsOf l = s.partialSlotsOf l := by
      refine List.flatMap_congr fun ch member => ?_
      rw [discarded, if_neg (ne_of_mem_of_not_mem member fresh)]
    have records : (s.discardPartial a).withoutPartials l = s.withoutPartials (a :: l) := by
      refine congrArg Vector.ofFn (funext fun ch => ?_)
      rw [discarded]
      by_cases same : ch = a
      · subst same; simp [fresh]
      · simp [same]
    rw [List.foldl_cons, ih distinct, slots, records, State.discardPartial_eq,
      State.modChannel_pool, SlotPool.releaseAll_releaseAll]
    rfl

/-- R147 steps 1 and 2: what the loss of every partial picture and credit writes. -/
theorem State.ingestLoss_eq (s : State) :
    s.ingestLoss = { s with
      channels := s.withoutPartials (List.finRange 32)
      pool := { (s.pool.releaseAll (s.partialSlotsOf (List.finRange 32))).releaseAll
        s.pool.reserved with reserved := [] }
      ingest := { s.ingest with smallOutstanding := 0, directiveUnspent := 0 } } := by
  rw [State.ingestLoss, State.foldl_discardPartial (List.nodup_finRange 32)]
  dsimp only
  rw [SlotPool.voidReserved, SlotPool.releaseAll_reserved]

theorem Channel.withoutPartial_eq (c : Channel) :
    c.withoutPartial = match c.assembly with
      | none => c
      | some _ => { c with assembly := none, counters := { c.counters with
          unitsLost := min 4294967295 (c.counters.unitsLost + 1) } } := by
  cases h : c.assembly with
  | none => exact Channel.withoutPartial_of_none h
  | some part => exact Channel.withoutPartial_of_some h

theorem IngestPort.queueReset_eq (p : IngestPort) :
    p.queueReset = { p with creditQueue :=
      (if p.wire = .credit then p.creditQueue.take 1 else []) ++ [.reset] } := by
  simp only [IngestPort.queueReset, beq_iff_eq]

theorem exec_headerCheckFailure_of_up {s : State} (up : s.ingest.link = .up) {header : List Byte}
    (fails : forwardHeaderFails header = true) :
    exec (.headerCheckFailure header) s = .next s.beginReturn.headerFailure := by
  simp only [exec, execHeaderCheckFailure, s.beginReturn_ingestLink, up, fails]
  rfl

theorem exec_ingestLinkDown_of_up {s : State} (up : s.ingest.link = .up) (n : Nat) :
    exec (.ingestLinkDown n) s = .next { s.beginReturn.ingestLoss with
      ingest := { s.beginReturn.ingestLoss.ingest with
        link := .down, inHand := s.ingest.inHand + min n s.ingest.directiveUnspent
        creditQueue := [], wire := .idle } } := by
  simp only [exec, execIngestLinkDown, s.beginReturn_ingestLink, s.beginReturn_inHand,
    s.beginReturn_directiveUnspent, up]
  rfl

/-- R145: the whole of a header check failure. -/
theorem State.headerFailure_eq (s : State) :
    s.headerFailure = { s with
      channels := s.withoutPartials (List.finRange 32)
      pool := { (s.pool.releaseAll (s.partialSlotsOf (List.finRange 32))).releaseAll
        s.pool.reserved with reserved := [] }
      ingest := { s.ingest with
        smallOutstanding := 0, directiveUnspent := 0
        creditQueue := (if s.ingest.wire = .credit then s.ingest.creditQueue.take 1 else [])
          ++ [.reset]
        counters := s.ingest.counters.countHeader } } := by
  rw [State.headerFailure, State.resynchronise, State.ingestLoss_eq]
  dsimp only
  rw [IngestPort.queueReset_eq]
  rfl

/-- Settles O40: both commands write what `State.ingestLoss_eq` gives, and each its own return
direction. -/
theorem ingestLinkLoss : Obligations.IngestLinkLoss := by
  intro s up partials channels pool
  have hslots : s.partialSlotsOf (List.finRange 32) = partials :=
    s.partialSlotsOf_eq_filterMap _
  have hchannels : s.withoutPartials (List.finRange 32) = channels := by
    refine congrArg Vector.ofFn (funext fun ch => ?_)
    exact (if_pos (List.mem_finRange ch)).trans (Channel.withoutPartial_eq _)
  have hpool : { (s.pool.releaseAll (s.partialSlotsOf (List.finRange 32))).releaseAll
      s.pool.reserved with reserved := [] } = pool := by rw [hslots]
  refine ⟨fun header fails => ?_, fun n => ?_⟩
  · rw [exec_headerCheckFailure_of_up up fails, State.headerFailure_eq,
      s.beginReturn_withoutPartials, s.beginReturn_partialSlotsOf, s.beginReturn_pool, hchannels,
      hpool, s.beginReturn_creditQueue, s.beginReturn_ingestCounters]
    rfl
  · rw [exec_ingestLinkDown_of_up up, State.ingestLoss_eq, s.beginReturn_withoutPartials,
      s.beginReturn_partialSlotsOf, s.beginReturn_pool, hchannels, hpool]
    obtain ⟨w, h⟩ := s.beginReturn_spec
    rw [h]

/-! ### Directive frames that are dropped (R135, R137, R144) -/

theorem runDirective_of_ended {s t : State} {f : DirectiveFrame}
    (ended : s.beginReturn.admitDirective f = .ended t) (code : Byte) (n : Nat)
    (act : List Byte → State → State × Answer) : runDirective code n act f s = .next t := by
  rw [runDirective, ended]

/-- R149: only a code that names no directive makes an unknown one. -/
theorem execUnknownDirective_of_ended {s t : State} {f : DirectiveFrame}
    (ended : s.beginReturn.admitDirective f = .ended t) {code : Byte}
    (unnamed : namesDirective code = false) : execUnknownDirective code f s = .next t := by
  have outside : ¬ (1 ≤ code.toNat ∧ code.toNat ≤ 0x12) := by
    simpa [namesDirective] using unnamed
  rw [execUnknownDirective, if_neg outside, ended]

/-- R135: a directive frame that ends in its admission reaches no directive's own rule. -/
theorem exec_directive_of_ended {i : Instr} {code : Byte} {f : DirectiveFrame} {s t : State}
    (directive : directiveOf i = some (code, f)) (wellFormed : i.wellFormed = true)
    (ended : s.beginReturn.admitDirective f = .ended t) : exec i s = .next t := by
  have answer := runDirective_of_ended ended
  cases i with
  | unknownDirective c g =>
    cases directive
    obtain ⟨unnamed, -⟩ := Bool.and_eq_true_iff.1 wellFormed
    exact execUnknownDirective_of_ended ended (by simpa using unnamed)
  | setLink g | queryPart g | loadProfile g | readProfile g | loadWindow g | readWindow g
  | loadMarker g | readMarker g | clearMatch g | openChannel g | closeChannel g | abortChannel g
  | queryChannel g | readFaultLog g | clearFaultLog g | hold g | release g | restart g =>
    cases directive
    exact answer _ _ _
  | _ => exact nomatch directive

theorem State.Delivers.linkUp {s : State} {p : Payload} (delivered : s.Delivers p) :
    s.ingest.link = .up := delivered.1

theorem State.Delivers.beginReturn {s : State} {p : Payload} (delivered : s.Delivers p) :
    s.beginReturn.Delivers p := by
  rwa [State.Delivers, s.beginReturn_ingestLink]

section Admission
variable {s : State} {f : DirectiveFrame} (fresh : s.ingest.inHand = 0)
  (delivered : s.Delivers f.payload)
include fresh delivered

theorem State.admitDirective_of_uncredited (none : s.ingest.directiveUnspent = 0) :
    s.admitDirective f = .ended (s.countFrame FrameCounters.countUncredited) := by
  simp [State.admitDirective, fresh, delivered.linkUp, delivered.inRange, none]

/-- R144: the credit that the frame spent is held for no reply. -/
theorem State.admitDirective_of_badPayload (credit : 0 < s.ingest.directiveUnspent)
    (bad : ¬ PayloadGood f.payload) :
    s.admitDirective f = .ended { s with ingest := { s.ingest with
      directiveUnspent := s.ingest.directiveUnspent - 1
      counters := s.ingest.counters.countPayload } } := by
  have fails : ¬ payloadPasses f.payload = true := mt (payloadPasses_iff _).1 bad
  simp [State.admitDirective, fresh, delivered.linkUp, delivered.inRange, credit.ne', fails]

end Admission

/-- Settles O22: both frames end in their admission. -/
theorem directiveFrameDropped : Obligations.DirectiveFrameDropped := by
  intro i code f s directive wellFormed fresh delivered
  have fresh' := s.beginReturn_inHand.trans fresh
  refine ⟨fun none => ?_, fun credit bad => ?_⟩
  · rw [exec_directive_of_ended directive wellFormed (State.admitDirective_of_uncredited fresh'
      delivered.beginReturn (s.beginReturn_directiveUnspent.trans none)),
      s.beginReturn_countFrame]
    rfl
  · rw [exec_directive_of_ended directive wellFormed (State.admitDirective_of_badPayload fresh'
      delivered.beginReturn (s.beginReturn_directiveUnspent.symm ▸ credit) bad),
      s.beginReturn_directiveUnspent, s.beginReturn_ingestCounters]
    rfl

end Sys2Proof.Machine

/-! SUPPORT. Media frames (section 10.3): how a delivered frame is admitted, what it does once it is
admitted and how an audio or cue unit is accepted; then the statements. -/

namespace Sys2Proof.Machine

/-! ### The admission of media frames (R135, R137) -/

/-- R135 steps 1 and 2: a delivered frame passes them. -/
theorem State.Delivers.passes {s : State} {p : Payload} (delivered : s.Delivers p)
    (down failed rest : Host.Outcome State Fault Refusal) :
    (if s.ingest.link != .up then down
      else if !lengthInRange p.length.toNat then failed else rest) = rest := by
  rw [if_neg (by simp [delivered.linkUp]), if_neg (by simp [delivered.inRange])]

/-- R93: the oldest RESERVED slot is spent, `rest` being the others. -/
def State.spendReserved (s : State) (rest : List SlotId) : State :=
  { s with pool := { s.pool with reserved := rest } }

section Delivered
variable {s : State} {f : MediaFrame} (delivered : s.Delivers f.payload)
include delivered

theorem exec_pictureStartFrame_of_uncredited (none : s.pool.reserved = []) (p : StartPosition) :
    exec (.pictureStartFrame p f) s =
      .next (s.beginReturn.countFrame FrameCounters.countUncredited) := by
  refine (delivered.beginReturn.passes _ _ _).trans ?_
  rw [s.beginReturn_pool, none]

theorem exec_pictureStartFrame_of_credited {slot : SlotId} {rest : List SlotId}
    (reserved : s.pool.reserved = slot :: rest) (p : StartPosition) :
    exec (.pictureStartFrame p f) s =
      .next (if payloadPasses f.payload then
        (s.beginReturn.spendReserved rest).startPicture p f slot
      else (s.beginReturn.spendReserved rest).startPictureFailed f slot) := by
  refine (delivered.beginReturn.passes _ _ _).trans ?_
  rw [s.beginReturn_pool, reserved, State.spendReserved, s.beginReturn_pool]
  exact (apply_ite Host.Outcome.next _ _ _).symm

theorem exec_pictureContinuationFrame_of_delivered (p : ContinuationPosition) :
    exec (.pictureContinuationFrame p f) s =
      .next (if payloadPasses f.payload then s.beginReturn.continuePicture p f
        else s.beginReturn.continuationFailed f) :=
  (delivered.beginReturn.passes _ _ _).trans (apply_ite Host.Outcome.next _ _ _).symm

theorem exec_smallUnitFrame_of_uncredited (none : s.ingest.smallOutstanding = 0) (k : SmallKind)
    (p : Position) :
    exec (.smallUnitFrame k p f) s =
      .next (s.beginReturn.countFrame FrameCounters.countUncredited) :=
  (delivered.beginReturn.passes _ _ _).trans
    (if_pos (s.beginReturn_smallOutstanding.trans none))

theorem exec_smallUnitFrame_of_credited (credit : 0 < s.ingest.smallOutstanding) (k : SmallKind)
    (p : Position) :
    exec (.smallUnitFrame k p f) s =
      .next (if payloadPasses f.payload then s.beginReturn.spendSmall.startSmall k p f
        else s.beginReturn.spendSmall.smallFailed p f) := by
  refine (delivered.beginReturn.passes _ _ _).trans ?_
  rw [if_neg (by rw [s.beginReturn_smallOutstanding]; exact credit.ne')]
  exact (apply_ite Host.Outcome.next _ _ _).symm

theorem exec_unitKindNoneFrame_of_delivered (p : Position) :
    exec (.unitKindNoneFrame p f) s =
      .next (if payloadPasses f.payload then s.beginReturn.stray
        else s.beginReturn.countFrame FrameCounters.countPayload) :=
  (delivered.beginReturn.passes _ _ _).trans (apply_ite Host.Outcome.next _ _ _).symm

end Delivered

/-! ### What an admitted media frame does (R94, R142 to R144) -/

theorem State.beginReturn_spendReserved (s : State) (rest : List SlotId) :
    s.beginReturn.spendReserved rest =
      { s.beginReturn with pool := { s.pool with reserved := rest } } := by
  rw [State.spendReserved, s.beginReturn_pool]

theorem State.beginReturn_spendSmall (s : State) :
    s.beginReturn.spendSmall = { s.beginReturn with ingest := { s.beginReturn.ingest with
      smallOutstanding := s.ingest.smallOutstanding - 1 } } := by
  rw [State.spendSmall, s.beginReturn_smallOutstanding]

@[simp] theorem State.spendReserved_channel (s : State) (rest : List SlotId) (ch : ChannelId) :
    (s.spendReserved rest).channel ch = s.channel ch := rfl
@[simp] theorem State.spendSmall_channel (s : State) (ch : ChannelId) :
    s.spendSmall.channel ch = s.channel ch := rfl

/-- R93 and R142: the payload at the start of a slot, the channel's old partial picture discarded. -/
def State.fillSlot (s : State) (f : MediaFrame) (slot : SlotId) : State :=
  { s.discardPartial f.channel with
    pool := (s.discardPartial f.channel).pool.fill slot f.payload.bytes }

section Frame
variable {s : State} {f : MediaFrame}

/-- R143: off a RUNNING channel a credited start frees the slot it spent. -/
theorem State.startPicture_of_not_running (idle : (s.channel f.channel).state ≠ .running)
    (p : StartPosition) (slot : SlotId) :
    s.startPicture p f slot = (s.releaseSlot slot).stray :=
  if_neg (mt (Channel.isRunning_iff _).1 idle)

/-- R144: a start with a bad payload frees the slot it spent, and loses the unit it began. -/
theorem State.startPictureFailed_eq (slot : SlotId) :
    s.startPictureFailed f slot =
      let freed := (s.releaseSlot slot).countFrame FrameCounters.countPayload
      if (s.channel f.channel).state = .running then
        (freed.discardPartial f.channel).loseUnit f.channel
      else freed :=
  if_congr (Channel.isRunning_iff _) rfl rfl

/-- R143: a continuation with no partial picture to continue. -/
theorem State.continuePicture_of_stray (p : ContinuationPosition)
    (stray : (s.channel f.channel).state ≠ .running ∨ (s.channel f.channel).assembly = none) :
    s.continuePicture p f = s.stray := by
  unfold State.continuePicture
  dsimp only
  split
  · next running partially =>
    rcases stray with idle | none
    · exact absurd ((Channel.isRunning_iff _).1 running) idle
    · exact nomatch none.symm.trans partially
  · rfl

theorem State.continuationFailed_eq :
    s.continuationFailed f =
      let counted := s.countFrame FrameCounters.countPayload
      if (s.channel f.channel).state = .running then counted.discardPartial f.channel
      else counted :=
  if_congr (Channel.isRunning_iff _) rfl rfl

theorem State.startSmall_of_stray {p : Position}
    (stray : (s.channel f.channel).state ≠ .running ∨ p ≠ .only) (k : SmallKind) :
    s.startSmall k p f = s.stray := by
  refine if_neg ?_
  rw [Bool.and_eq_true, Channel.isRunning_iff, beq_iff_eq]
  tauto

theorem State.smallFailed_eq (p : Position) :
    s.smallFailed p f =
      let counted := s.countFrame FrameCounters.countPayload
      if (s.channel f.channel).state = .running ∧ p = .only then counted.loseUnit f.channel
      else counted := by
  refine if_congr ?_ rfl rfl
  rw [Bool.and_eq_true, Channel.isRunning_iff, beq_iff_eq]
  rfl

section Running
variable (running : (s.channel f.channel).state = .running)
include running

theorem State.startPicture_first (slot : SlotId) :
    s.startPicture .first f slot = (s.fillSlot f slot).setPartial f.channel (some
      { slot := slot, bytes := f.payload.bytes.length, expected := f.sequence + 1
        timestamp := f.timestamp.toNat, flags := f.flags }) :=
  if_pos ((Channel.isRunning_iff _).2 running)

theorem State.startPicture_only (slot : SlotId) :
    s.startPicture .only f slot =
      (s.fillSlot f slot).acceptPicture f.channel slot f.timestamp.toNat f.flags :=
  if_pos ((Channel.isRunning_iff _).2 running)

theorem State.startSmall_only (k : SmallKind) : s.startSmall k .only f = s.acceptSmall k f :=
  if_pos (Bool.and_eq_true_iff.2 ⟨(Channel.isRunning_iff _).2 running, rfl⟩)

variable {part : PartialPicture} (partially : (s.channel f.channel).assembly = some part)
include partially

/-- R94: a wrong sequence or a unit too large. -/
theorem State.continuePicture_of_bad (p : ContinuationPosition)
    (bad : f.sequence ≠ part.expected ∨ 1048576 < part.bytes + f.payload.bytes.length) :
    s.continuePicture p f = s.discardPartial f.channel := by
  simp only [State.continuePicture, (Channel.isRunning_iff _).2 running, partially,
    Config.compressedAreaBytes, bne_iff_ne]
  rcases bad with sequence | large
  · exact if_pos sequence
  · exact (ite_congr rfl (fun _ => rfl) fun _ => if_pos large).trans (ite_self _)

variable (sequence : f.sequence = part.expected)
  (fits : part.bytes + f.payload.bytes.length ≤ 1048576)
include sequence fits

/-- R94: the payload is appended; MIDDLE leaves the picture partial and LAST completes it. -/
theorem State.continuePicture_of_good :
    s.continuePicture .middle f =
        State.setPartial { s with pool := s.pool.append part.slot f.payload.bytes } f.channel (some
          { part with bytes := part.bytes + f.payload.bytes.length,
                      expected := part.expected + 1 })
      ∧ s.continuePicture .last f =
        (State.setPartial { s with pool := s.pool.append part.slot f.payload.bytes } f.channel
          none).acceptPicture f.channel part.slot part.timestamp part.flags := by
  constructor <;>
  simp only [State.continuePicture, (Channel.isRunning_iff _).2 running, partially,
    Config.compressedAreaBytes, bne_iff_ne, sequence, ne_eq, not_true, if_false, fits.not_gt]

end Running
end Frame

/-! ### The acceptance of an audio or cue unit (R5, R7, R114) -/

/-- R7: when a unit is late on a channel that has adopted a base. -/
theorem Channel.smallLate_adoptBase (c : Channel) (k : SmallKind) (time : Nat) :
    (c.adoptBase time).smallLate k time = true ↔
      time < c.base.getD time ∨ (k = .audio ∧ ∃ l, c.lastAudio = some l ∧ time < l) := by
  rw [Channel.adoptBase_eq]
  cases k <;> cases c.lastAudio <;> simp [Channel.smallLate, Channel.belowBase]

section Small
variable {s : State} {k : SmallKind} {f : MediaFrame} {c : Channel} {time : Nat}
  (record : s.channel f.channel = c) (stamped : f.timestamp.toNat = time)
include record stamped

theorem State.acceptSmall_of_late (late : (c.adoptBase time).smallLate k time = true) :
    s.acceptSmall k f = { s with channels := s.channels.set f.channel { c with
      base := some (c.base.getD time), counters := c.counters.late } } := by
  subst record stamped
  refine (if_pos late).trans ?_
  rw [Channel.adoptBase_eq]; rfl

theorem State.acceptSmall_of_inTime (inTime : ¬ (c.adoptBase time).smallLate k time = true) :
    s.acceptSmall k f = { s with
      channels := s.channels.set f.channel { c with
        base := some (c.base.getD time)
        lastAudio := if k = .audio then some time else c.lastAudio }
      small := s.small ++ [{ channel := f.channel, kind := k, timestamp := time
                             flags := f.flags, payload := f.payload.bytes }] } := by
  subst record stamped
  refine (if_neg inTime).trans ?_
  rw [Channel.adoptBase_eq]
  cases k <;> rfl

end Small

/-! ### The statements (section 10.3) -/

/-- Settles O34: the slot spent is filled; FIRST leaves it to the channel's partial picture, ONLY to
the acceptance. -/
theorem pictureStartsUnit : Obligations.PictureStartsUnit := by
  intro f s slot rest delivered good reserved running spent cleared filled
  have passes := (payloadPasses_iff _).2 good
  have started (p : StartPosition) :
      exec (.pictureStartFrame p f) s = .next (spent.startPicture p f slot) := by
    rw [exec_pictureStartFrame_of_credited delivered reserved, if_pos passes,
      s.beginReturn_spendReserved]
  have running : (spent.channel f.channel).state = .running := by
    rw [← running, ← s.beginReturn_channel]; rfl
  exact ⟨(started .first).trans (congrArg _ (State.startPicture_first running slot)),
    (started .only).trans (congrArg _ (State.startPicture_only running slot))⟩

/-- Settles O36: the three fates of a continuation, each on the state once a frame has begun. -/
theorem pictureContinues : Obligations.PictureContinues := by
  intro f s part delivered good running partially total old appended
  have passes := (payloadPasses_iff _).2 good
  have continued (p : ContinuationPosition) :
      exec (.pictureContinuationFrame p f) s = .next (s.beginReturn.continuePicture p f) := by
    rw [exec_pictureContinuationFrame_of_delivered delivered, if_pos passes]
  rw [← s.beginReturn_channel] at running partially
  have written : { s.beginReturn with
      pool := s.beginReturn.pool.append part.slot f.payload.bytes } = appended := by
    rw [s.beginReturn_pool]; rfl
  have recorded (a : Option PartialPicture) : appended.setPartial f.channel a = { appended with
      channels := s.channels.set f.channel { s.channel f.channel with assembly := a } } := by
    rw [← s.beginReturn_channels, ← s.beginReturn_channel]; rfl
  refine ⟨fun bad p => ?_, fun sequence fits => ?_, fun sequence fits => ?_⟩
  · rw [continued, State.continuePicture_of_bad running partially p bad]
  · obtain ⟨middle, -⟩ := State.continuePicture_of_good running partially sequence fits
    rw [continued, middle, written, recorded]
  · obtain ⟨-, last⟩ := State.continuePicture_of_good running partially sequence fits
    rw [continued, last, written, recorded]

/-- Settles O37: `Channel.smallLate_adoptBase` decides between the two. -/
theorem smallUnitTakesAnEntry : Obligations.SmallUnitTakesAnEntry := by
  intro k f s delivered good credit running c time base late spent
  have passes := (payloadPasses_iff _).2 good
  have record : spent.channel f.channel = c := s.beginReturn_channel f.channel
  have running : (spent.channel f.channel).state = .running :=
    (congrArg Channel.state record).trans running
  have accepted : exec (.smallUnitFrame k .only f) s = .next (spent.acceptSmall k f) := by
    rw [exec_smallUnitFrame_of_credited delivered credit, if_pos passes,
      s.beginReturn_spendSmall, State.startSmall_only running]
  have decided : (c.adoptBase time).smallLate k time = true ↔ late :=
    c.smallLate_adoptBase k time
  have channels : spent.channels = s.channels := s.beginReturn_channels
  have small : spent.small = s.small := s.beginReturn_small
  refine ⟨fun h => ?_, fun h => ?_⟩
  · rw [accepted, State.acceptSmall_of_late record rfl (decided.2 h), channels]
    rfl
  · rw [accepted, State.acceptSmall_of_inTime record rfl (mt decided.1 h), channels, small]

/-- Settles O38: each stray frame is counted with its credit spent. -/
theorem strayFrames : Obligations.StrayFrames := by
  intro f s delivered good counted running
  have passes := (payloadPasses_iff _).2 good
  have stray : s.beginReturn.stray = { s.beginReturn with ingest := counted } :=
    s.beginReturn_countFrame _
  have port : s.beginReturn.stray.ingest = counted := congrArg State.ingest stray
  refine ⟨fun p slot rest idle reserved => ?_, fun p h => ?_, fun k p h credit => ?_, fun p => ?_⟩
  · rw [exec_pictureStartFrame_of_credited delivered reserved, if_pos passes,
      State.startPicture_of_not_running (by simpa using idle), s.beginReturn_spendReserved,
      ← port]
    rfl
  · rw [exec_pictureContinuationFrame_of_delivered delivered, if_pos passes,
      State.continuePicture_of_stray p (by simpa using h), stray]
  · rw [exec_smallUnitFrame_of_credited delivered credit, if_pos passes,
      State.startSmall_of_stray (by simpa using h), s.beginReturn_spendSmall, ← port]
    rfl
  · rw [exec_unitKindNoneFrame_of_delivered delivered, if_pos passes, stray]

/-- Settles O39: an uncredited frame ends in its admission; a bad payload is counted and then loses
what the frame began or continued. -/
theorem framesDroppedForCreditOrPayload : Obligations.FramesDroppedForCreditOrPayload := by
  constructor
  · intro f s delivered counted
    have uncredited : s.beginReturn.countFrame FrameCounters.countUncredited = counted :=
      s.beginReturn_countFrame _
    rw [← uncredited]
    exact ⟨exec_pictureStartFrame_of_uncredited delivered,
      exec_smallUnitFrame_of_uncredited delivered⟩
  · intro f s delivered bad running counted lose
    have fails : ¬ payloadPasses f.payload = true := mt (payloadPasses_iff _).1 bad
    have failed : s.beginReturn.countFrame FrameCounters.countPayload = counted :=
      s.beginReturn_countFrame _
    have port : (s.beginReturn.countFrame FrameCounters.countPayload).ingest = counted.ingest :=
      congrArg State.ingest failed
    have hrunning : (s.beginReturn.channel f.channel).state = .running ↔ running := by
      rw [s.beginReturn_channel]
    refine ⟨fun p slot rest reserved => ?_, fun p => ?_, fun k p credit => ?_, fun p => ?_⟩
    · intro freed
      have hfreed : ((s.beginReturn.spendReserved rest).releaseSlot slot).countFrame
          FrameCounters.countPayload = freed := by
        rw [s.beginReturn_spendReserved]
        exact congrArg (fun i => ({ freed with ingest := i } : State)) port
      rw [exec_pictureStartFrame_of_credited delivered reserved, if_neg fails,
        State.startPictureFailed_eq, hfreed]
      exact congrArg _ (if_congr hrunning rfl rfl)
    · rw [exec_pictureContinuationFrame_of_delivered delivered, if_neg fails,
        State.continuationFailed_eq, failed]
      exact congrArg _ (if_congr hrunning rfl rfl)
    · intro spent
      have hspent : s.beginReturn.spendSmall.countFrame FrameCounters.countPayload = spent := by
        rw [s.beginReturn_spendSmall]
        exact congrArg (fun i : IngestPort => ({ counted with ingest := { i with
          smallOutstanding := s.ingest.smallOutstanding - 1 } } : State)) port
      rw [exec_smallUnitFrame_of_credited delivered credit, if_neg fails, State.smallFailed_eq,
        hspent]
      exact congrArg _ (if_congr (and_congr_left' hrunning) rfl rfl)
    · rw [exec_unitKindNoneFrame_of_delivered delivered, if_neg fails, failed]

end Sys2Proof.Machine

/-! SUPPORT. The directive unit (sections 11.1, 11.3 and 11.6): how events and replies enter the
report queue, what each directive's own rule answers, said once, and from that the statements on
replies, on malformed directives and on SET LINK. -/

namespace Sys2Proof.Machine

/-! ### Events and replies in the report queue (R148, R152) -/

theorem State.raise_of_room {s : State} (room : s.reportCount < 32) (e : Event) :
    s.raise e = { s with reports := s.reports.push (.event e) } := if_pos room

theorem State.raise_of_full {s : State} (full : 32 ≤ s.reportCount) (e : Event) :
    s.raise e = { s with reports := { s.reports with lostPending := true } } := if_neg full.not_gt

/-- Settles O12: the report count decides on an event; a reply is not tested against it. -/
theorem reportsEnterTheQueue : Obligations.ReportsEnterTheQueue :=
  ⟨fun _ e room => State.raise_of_room room e, fun _ e full => State.raise_of_full full e,
    fun _ _ _ _ _ => rfl⟩

/-! ### What a directive's own rule yields (R148, R149) -/

/-- What a directive's own rule, taken in a state, yields short of RESTART: the report queue and the
ingest port are left alone, and a refusal has no data and makes no event due. -/
structure Replies (s : State) (out : State × Answer) : Prop where
  reports : out.1.reports = s.reports
  ingest : out.1.ingest = s.ingest
  refused : out.2.result ≠ .done → out.2.data = .none ∧ out.2.events = []

namespace Replies
variable {s t : State} {d : ReplyData} {es : List Event}

theorem refusal (r : Result) : Replies s (s, Answer.of r) := ⟨rfl, rfl, fun _ => ⟨rfl, rfl⟩⟩

theorem done (reports : t.reports = s.reports := by simp)
    (ingest : t.ingest = s.ingest := by simp) :
    Replies s (t, { result := .done, data := d, events := es }) :=
  ⟨reports, ingest, fun refused => absurd rfl refused⟩

end Replies

section Rules
variable (b : List Byte) (s : State)

theorem takeSetLink_replies : Replies s (takeSetLink b s) := by
  unfold takeSetLink
  dsimp only
  split
  · exact .refusal _
  · exact .done

theorem takeLoadProfile_replies : Replies s (takeLoadProfile b s) := by
  unfold takeLoadProfile
  split
  · exact .refusal _
  · split
    · exact .refusal _
    · split
      · exact .refusal _
      · dsimp only
        split
        · exact .done
        · split
          · exact .refusal _
          · exact .done

theorem takeReadProfile_replies : Replies s (takeReadProfile b s) := by
  unfold takeReadProfile
  split
  · exact .refusal _
  · exact .done

theorem takeLoadWindow_replies : Replies s (takeLoadWindow b s) := by
  unfold takeLoadWindow
  split
  · exact .refusal _
  · split
    · exact .refusal _
    · exact .done

theorem takeReadWindow_replies : Replies s (takeReadWindow b s) := by
  unfold takeReadWindow
  split
  · exact .refusal _
  · exact .done

theorem takeLoadMarker_replies : Replies s (takeLoadMarker b s) := by
  unfold takeLoadMarker
  split
  · exact .refusal _
  · split
    · exact .refusal _
    · exact .done

theorem takeReadMarker_replies : Replies s (takeReadMarker b s) := by
  unfold takeReadMarker
  split
  · exact .refusal _
  · exact .done

theorem takeOpen_replies : Replies s (takeOpen b s) := by
  unfold takeOpen
  split
  · exact .refusal _
  · exact .refusal _
  · split
    · exact .refusal _
    · dsimp only
      split
      · exact .refusal _
      · split
        · exact .refusal _
        · split
          · exact .refusal _
          · exact .done rfl rfl

theorem takeClose_replies : Replies s (takeClose b s) := by
  unfold takeClose
  split
  · exact .refusal _
  · split
    · exact .refusal _
    · exact .refusal _
    · exact .refusal _
    · exact .done

/-- R15: the END record and the CLOSED record of a channel are none of the report queue's; its event
is raised after the reply. -/
theorem State.finishAbort_reports (ch : ChannelId) : (s.finishAbort ch).1.reports = s.reports := by
  unfold State.finishAbort; split <;> rfl

theorem State.finishAbort_ingest (ch : ChannelId) : (s.finishAbort ch).1.ingest = s.ingest := by
  unfold State.finishAbort; split <;> rfl

theorem takeAbort_replies : Replies s (takeAbort b s) := by
  cases hch : objectNumber 32 (bodyNat b 0 1) with
  | none => rw [takeAbort_of_badChannel hch]; exact .refusal _
  | some ch =>
    have aborted : Replies s (((s.abortWork ch).finishAbort ch).1,
        { result := .done, data := .none, events := ((s.abortWork ch).finishAbort ch).2 }) := by
      refine .done ?_ ?_
      · rw [State.finishAbort_reports, State.abortWork_eq]; rfl
      · rw [State.finishAbort_ingest, State.abortWork_eq]; rfl
    cases hs : (s.channel ch).state with
    | closed => rw [takeAbort_of_closed hch hs]; exact .refusal _
    | aborting => rw [takeAbort_of_aborting hch hs]; exact .refusal _
    | running => rw [takeAbort_of_live hch (.inl hs)]; exact aborted
    | draining => rw [takeAbort_of_live hch (.inr hs)]; exact aborted

theorem takeQueryChannel_replies : Replies s (takeQueryChannel b s) := by
  unfold takeQueryChannel
  split
  · exact .refusal _
  · exact .done

theorem State.decideHold_reports : s.decideHold.1.reports = s.reports := by
  unfold State.decideHold; split <;> rfl

theorem State.decideHold_ingest : s.decideHold.1.ingest = s.ingest := by
  unfold State.decideHold; split <;> rfl

/-- R158 and R159: HOLD's decision, if any, is due as an event after the reply. -/
theorem takeHold_replies : Replies s (takeHold b s) := by
  unfold takeHold
  split
  · exact .refusal _
  · split
    · exact .refusal _
    · split
      · exact .done
      · unfold State.enterHold
        dsimp only
        split
        · exact .done (State.decideHold_reports _) (State.decideHold_ingest _)
        · split
          · exact .done
          · exact .done

theorem takeRelease_replies : Replies s (takeRelease b s) := by
  unfold takeRelease
  split
  · exact .refusal _
  · exact .done
  · exact .done

end Rules

/-- R149 and R166: the code of a directive frame chooses its directive's own rule and the length of
its body. Each rule but RESTART's leaves the reports to the directive unit. -/
theorem exec_directive_of_named {i : Instr} {code : Byte} {f : DirectiveFrame}
    (directive : directiveOf i = some (code, f)) (named : ∀ c g, i ≠ .unknownDirective c g) :
    ∃ act : List Byte → State → State × Answer,
      (∀ s, exec i s = runDirective code (bodyLengthOf code) act f s)
        ∧ ((∃ g, i = .restart g) ∧ act = takeRestart ∨ ∀ b s, Replies s (act b s)) := by
  cases i with
  | unknownDirective c g => exact absurd rfl (named c g)
  | setLink g => cases directive; exact ⟨takeSetLink, fun _ => rfl, .inr takeSetLink_replies⟩
  | queryPart g => cases directive; exact ⟨takeQueryPart, fun _ => rfl, .inr fun _ _ => .done⟩
  | loadProfile g =>
    cases directive; exact ⟨takeLoadProfile, fun _ => rfl, .inr takeLoadProfile_replies⟩
  | readProfile g =>
    cases directive; exact ⟨takeReadProfile, fun _ => rfl, .inr takeReadProfile_replies⟩
  | loadWindow g =>
    cases directive; exact ⟨takeLoadWindow, fun _ => rfl, .inr takeLoadWindow_replies⟩
  | readWindow g =>
    cases directive; exact ⟨takeReadWindow, fun _ => rfl, .inr takeReadWindow_replies⟩
  | loadMarker g =>
    cases directive; exact ⟨takeLoadMarker, fun _ => rfl, .inr takeLoadMarker_replies⟩
  | readMarker g =>
    cases directive; exact ⟨takeReadMarker, fun _ => rfl, .inr takeReadMarker_replies⟩
  | clearMatch g => cases directive; exact ⟨takeClearMatch, fun _ => rfl, .inr fun _ _ => .done⟩
  | openChannel g => cases directive; exact ⟨takeOpen, fun _ => rfl, .inr takeOpen_replies⟩
  | closeChannel g => cases directive; exact ⟨takeClose, fun _ => rfl, .inr takeClose_replies⟩
  | abortChannel g => cases directive; exact ⟨takeAbort, fun _ => rfl, .inr takeAbort_replies⟩
  | queryChannel g =>
    cases directive; exact ⟨takeQueryChannel, fun _ => rfl, .inr takeQueryChannel_replies⟩
  | readFaultLog g =>
    cases directive; exact ⟨takeReadFaultLog, fun _ => rfl, .inr fun _ _ => .done⟩
  | clearFaultLog g =>
    cases directive; exact ⟨takeClearFaultLog, fun _ => rfl, .inr fun _ _ => .done⟩
  | hold g => cases directive; exact ⟨takeHold, fun _ => rfl, .inr takeHold_replies⟩
  | release g => cases directive; exact ⟨takeRelease, fun _ => rfl, .inr takeRelease_replies⟩
  | restart g => cases directive; exact ⟨takeRestart, fun _ => rfl, .inl ⟨⟨f, rfl⟩, rfl⟩⟩
  | _ => exact nomatch directive

/-! ### Wrong lengths and unknown codes (R149) -/

/-- R148 and R149: a directive is answered with what its own rule yields, or with a refusal when its
body is of the wrong length. -/
theorem State.takeDirective_cases (s : State) (code : Byte) (n : Nat)
    (act : List Byte → State → State × Answer) (f : DirectiveFrame) :
    ∃ out : State × Answer,
      s.takeDirective code n act f =
          (out.1.reply f.tag code out.2.result out.2.data).raiseAll out.2.events
        ∧ (out = (s, Answer.of (.badField 255)) ∨ out = act f.payload.bytes s) := by
  unfold State.takeDirective
  split
  · exact ⟨(s, Answer.of (.badField 255)), rfl, .inl rfl⟩
  · exact ⟨act f.payload.bytes s, rfl, .inr rfl⟩

theorem State.takeDirective_of_badLength {f : DirectiveFrame} {n : Nat}
    (wrong : f.payload.bytes.length ≠ n) (s : State) (code : Byte)
    (act : List Byte → State → State × Answer) :
    s.takeDirective code n act f = s.reply f.tag code (.badField 255) .none := if_pos wrong

theorem exec_unknownDirective_of_hands {s : State} {f : DirectiveFrame} (hands : s.Hands f)
    {code : Byte} (unnamed : ¬ (1 ≤ code.toNat ∧ code.toNat ≤ 0x12)) :
    exec (.unknownDirective code f) s = .next (s.answered f code .unknown .none) := by
  simp only [exec, execUnknownDirective, if_neg unnamed, State.admitDirective_of_hands hands]
  rfl

/-- Settles O23: the length and the code are tested before any rule of a directive's own. -/
theorem malformedDirectiveIsAnswered : Obligations.MalformedDirectiveIsAnswered := by
  refine ⟨fun i code f s directive named hands wrong => ?_, fun code f s unnamed hands => ?_⟩
  · obtain ⟨act, run, -⟩ := exec_directive_of_named directive named
    rw [run, runDirective_of_hands hands, State.takeDirective_of_badLength wrong]
    rfl
  · exact exec_unknownDirective_of_hands hands (by omega)

/-! ### One reply for each directive (R148) -/

/-- R148: the reply joins the reports that waited and releases the credit of its directive; the
events due follow it. -/
theorem State.replied_spec (s : State) (tag : BitVec 16) (code : Byte) (a : Answer)
    (held : 0 < s.ingest.inHand) :
    ∃ events : List Report,
      ((s.reply tag code a.result a.data).raiseAll a.events).reports.queue = s.reports.queue
          ++ [{ eventsLost := s.reports.lostPending
                body := .reply tag code a.result a.data }] ++ events
        ∧ (∀ x ∈ events, ∃ e, x.body = .event e)
        ∧ (a.events = [] → events = [])
        ∧ ((s.reply tag code a.result a.data).raiseAll a.events).ingest.directiveUnspent
            + ((s.reply tag code a.result a.data).raiseAll a.events).ingest.inHand + 1 =
          s.ingest.directiveUnspent + s.ingest.inHand := by
  obtain ⟨events, lost, raised, areEvents, -⟩ :=
    State.raiseAll_spec a.events (s.reply tag code a.result a.data)
  refine ⟨events, by rw [raised]; rfl, areEvents, fun none => ?_, ?_⟩
  · rw [none] at raised
    have queue := congrArg (fun t : State => t.reports.queue) raised
    exact List.self_eq_append_right.1 queue
  · rw [State.raiseAll_ingest]
    show s.ingest.directiveUnspent + (s.ingest.inHand - 1) + 1 = _
    omega

theorem State.taking_reports (s : State) : s.taking.reports = s.reports := by
  obtain ⟨i, h, -⟩ := s.taking_spec; rw [h]

/-- R148: what a directive that reaches the directive unit is answered with: a refusal, or what its
own rule yields on the part as the unit finds it. -/
theorem exec_directive_of_hands {i : Instr} {code : Byte} {f : DirectiveFrame} {s : State}
    (directive : directiveOf i = some (code, f)) (wellFormed : i.wellFormed = true)
    (hands : s.Hands f) :
    ∃ out : State × Answer,
      exec i s = .next ((out.1.reply f.tag code out.2.result out.2.data).raiseAll out.2.events)
        ∧ ((∃ g, i = .restart g) ∧ out = takeRestart f.payload.bytes s.taking
          ∨ Replies s.taking out) := by
  by_cases unknown : ∃ c g, i = .unknownDirective c g
  · obtain ⟨c, g, rfl⟩ := unknown
    cases directive
    obtain ⟨unnamed, -⟩ := Bool.and_eq_true_iff.1 wellFormed
    have unnamed : namesDirective code = false := by simpa using unnamed
    have outside : ¬ (1 ≤ code.toNat ∧ code.toNat ≤ 0x12) := by
      simpa [namesDirective] using unnamed
    exact ⟨(s.taking, Answer.of .unknown), exec_unknownDirective_of_hands hands outside,
      .inr (.refusal _)⟩
  · obtain ⟨act, run, rule⟩ := exec_directive_of_named directive fun c g h => unknown ⟨c, g, h⟩
    obtain ⟨out, taken, answer⟩ := s.taking.takeDirective_cases code (bodyLengthOf code) act f
    refine ⟨out, by rw [run, runDirective_of_hands hands, taken], ?_⟩
    rcases answer with rfl | rfl
    · exact .inr (.refusal _)
    · rcases rule with ⟨restart, rfl⟩ | rule
      · exact .inl ⟨restart, rfl⟩
      · exact .inr (rule _ _)

/-- Settles O21: RESTART apart, the rule that answers leaves the reports that waited to stand before
the reply. -/
theorem everyDirectiveGetsOneReply : Obligations.EveryDirectiveGetsOneReply := by
  intro i code f s directive wellFormed hands
  obtain ⟨inHand, held⟩ := State.taking_held hands
  obtain ⟨out, run, ⟨⟨g, rfl⟩, rfl⟩ | ⟨reports, ingest, refused⟩⟩ :=
    exec_directive_of_hands directive wellFormed hands
  · exact ⟨_, [], _, .done, .none, [], run, rfl, by simp, fun refusal => absurd rfl refusal,
      fun other => absurd rfl (other g)⟩
  · obtain ⟨events, queue, areEvents, silent, released⟩ :=
      out.1.replied_spec f.tag code out.2 (ingest ▸ inHand)
    refine ⟨_, _, _, _, _, events, run, queue, areEvents, fun refusal => ?_, fun _ => ?_⟩
    · obtain ⟨data, none⟩ := refused refusal
      exact ⟨data, silent none⟩
    · rw [reports, s.taking_reports]
      exact ⟨rfl, rfl, by rw [released, ingest, held]⟩

/-! ### SET LINK (R155, R156) -/

/-- R155: the first of the four fields that is out of range, if any. -/
theorem LinkSettings.firstBad_eq (l : LinkSettings) :
    l.firstBad =
      if ¬ (1 ≤ l.pictureLimit ∧ l.pictureLimit ≤ 16) then some 1
      else if ¬ (1 ≤ l.smallLimit ∧ l.smallLimit ≤ 64) then some 2
      else if ¬ (1024 ≤ l.egressPayload ∧ l.egressPayload ≤ 8192 ∧ l.egressPayload % 512 = 0) then
        some 3
      else if 60000 < l.stallTimeout then some 4
      else none := by
  simp only [LinkSettings.firstBad, firstBad_cons, Bool.and_eq_true, inRange_iff, beq_iff_eq,
    ite_not, and_assoc, Nat.zero_le, true_and, ← not_lt (b := l.stallTimeout)]
  rfl

theorem takeSetLink_of_bad {b : List Byte} {n : Nat} (bad : (readLinkSettings b).firstBad = some n)
    (s : State) : takeSetLink b s = (s, Answer.of (.badField n)) := by
  simp only [takeSetLink, bad]

theorem takeSetLink_of_good {b : List Byte} (good : (readLinkSettings b).firstBad = none)
    (s : State) : takeSetLink b s =
      (State.startStall { s with settings := readLinkSettings b }, Answer.of .done) := by
  simp only [takeSetLink, good]

/-- Settles O24: `LinkSettings.firstBad_eq` on the four fields of the body. -/
theorem setLinkReplacesAllFour : Obligations.SetLinkReplacesAllFour := by
  intro f s hands len b p q z w pOk qOk zOk
  have long : b.length = 8 := len
  have settings : readLinkSettings b =
      { pictureLimit := p, smallLimit := q, egressPayload := z, stallTimeout := w } := by
    rw [readLinkSettings, bodyNat_byte b 0 (by omega), bodyNat_byte b 1 (by omega)]
    rfl
  have checked := (readLinkSettings b).firstBad_eq
  rw [settings] at checked
  have refused {n : Nat} (bad : (readLinkSettings b).firstBad = some n) :
      exec (.setLink f) s = .next (s.answered f 0x01 (.badField n) .none) :=
    runDirective_of_refusal hands len codeSetLink (takeSetLink_of_bad bad _)
  rw [settings] at refused
  refine ⟨fun hp => refused ?_, fun hp hq => refused ?_, fun hp hq hz => refused ?_,
    fun hp hq hz hw => refused ?_, fun hp hq hz hw => ?_⟩
  · rw [checked, if_pos hp]
  · rw [checked, if_neg (not_not_intro hp), if_pos hq]
  · rw [checked, if_neg (not_not_intro hp), if_neg (not_not_intro hq), if_pos hz]
  · rw [checked, if_neg (not_not_intro hp), if_neg (not_not_intro hq),
      if_neg (not_not_intro hz), if_pos hw]
  · have good : (readLinkSettings b).firstBad = none := by
      rw [settings, checked, if_neg (not_not_intro hp), if_neg (not_not_intro hq),
        if_neg (not_not_intro hz), if_neg hw.not_gt]
    rw [← settings]
    exact runDirective_of_answer hands len codeSetLink (takeSetLink_of_good good _)

end Sys2Proof.Machine

/-! SUPPORT. The 32 places that queued reports and held directive credits share (R140, R151): what
each operation does to them, then the commands one by one. -/

namespace Sys2Proof.Machine

-- One after another: elaborated side by side, these many case splits exceed the memory limit.
set_option Elab.async false

/-! ### The places taken (R140, R151) -/

theorem State.reportPlaces_iff (s : State) : s.ReportPlaces ↔ s.reportCount ≤ 32 := by
  rw [ReportPlaces, reportCount, IngestPort.directiveHeld, Nat.add_assoc]

namespace State.ReportPlaces
variable {s t : State} (ok : s.ReportPlaces)
include ok

theorem of_le (fewer : t.reportCount ≤ s.reportCount) : t.ReportPlaces :=
  (reportPlaces_iff t).2 (fewer.trans ((reportPlaces_iff s).1 ok))

/-- An update that leaves the report queue and the directive credits held. -/
theorem of_same (reports : t.reports = s.reports := by rfl)
    (unspent : t.ingest.directiveUnspent = s.ingest.directiveUnspent := by rfl)
    (inHand : t.ingest.inHand = s.ingest.inHand := by rfl) : t.ReportPlaces := by
  rw [ReportPlaces, reports, unspent, inHand]; exact ok

/-- An update that leaves the report queue and the ingest port. -/
theorem of_eq (reports : t.reports = s.reports := by simp)
    (ingest : t.ingest = s.ingest := by simp) : t.ReportPlaces :=
  ok.of_same reports (congrArg _ ingest) (congrArg _ ingest)

/-! #### Reports -/

/-- R152: events take no place beyond the 32. -/
theorem raiseAll (es : List Event) : (s.raiseAll es).ReportPlaces := by
  obtain ⟨-, -, -, -, kept⟩ := raiseAll_spec es s
  exact kept ok

theorem raise (e : Event) : (s.raise e).ReportPlaces := ok.raiseAll [e]

/-- R148: a reply takes the place of the credit it releases. -/
theorem reply (held : 0 < s.ingest.inHand) (tag : BitVec 16) (code : Byte) (r : Result)
    (d : ReplyData) : (s.reply tag code r d).ReportPlaces := by
  refine ok.of_le ?_
  simp only [State.reply, ReportQueue.push, reportCount, IngestPort.directiveHeld,
    List.length_append, List.length_singleton]
  omega

/-! #### The shared operations -/

theorem beginReturn : s.beginReturn.ReportPlaces := by
  obtain ⟨w, h⟩ := s.beginReturn_spec
  rw [h]; exact ok.of_same

theorem startStall : s.startStall.ReportPlaces := ok.of_eq

theorem settleHold : s.settleHold.ReportPlaces :=
  (ok.of_eq s.decideHold_reports s.decideHold_ingest).raiseAll _

theorem modChannel (ch : ChannelId) (f : Channel → Channel) : (s.modChannel ch f).ReportPlaces :=
  ok.of_same

theorem countFrame (f : FrameCounters → FrameCounters) : (s.countFrame f).ReportPlaces :=
  ok.of_same

theorem discardPartial (ch : ChannelId) : (s.discardPartial ch).ReportPlaces := ok.of_eq

theorem reportRead (o : ReadOutcome) (r : FaultRecord) : (s.reportRead o r).ReportPlaces := by
  obtain ⟨log, events, h⟩ := s.reportRead_spec o r
  have logged : ReportPlaces { s with faults := log } := ok.of_same
  rw [h]; exact logged.raiseAll events

/-- R53: a marker held against a unit offers one event at most. -/
theorem evaluateMarker (u : MarkedUnit) (i : MarkerId) : (s.evaluateMarker u i).ReportPlaces := by
  have offered : (s.offerMark s.markers u i).ReportPlaces := by
    unfold State.offerMark
    split
    · exact ok.raise _
    · exact ok
  rw [evaluateMarker_eq]
  refine offered.of_eq rfl ?_
  rw [offerMark_eq]; rfl

theorem evaluateMarkers (u : MarkedUnit) : (s.evaluateMarkers u).ReportPlaces :=
  List.foldlRecOn _ _ ok fun _ ok i _ => ok.evaluateMarker u i

/-! #### The loss of the ingest link and media frames -/

/-- R145 and R147: the unspent credits are void. -/
theorem headerFailure : s.headerFailure.ReportPlaces := by
  rw [State.headerFailure_eq]
  exact ok.of_le (Nat.add_le_add_left (Nat.add_le_add_right (Nat.zero_le _) _) _)

theorem acceptPicture (ch : ChannelId) (slot : SlotId) (time : Nat) (flags : BitVec 16) :
    (s.acceptPicture ch slot time flags).ReportPlaces := by
  unfold State.acceptPicture
  dsimp only
  split
  · exact ok.of_same
  · exact ok.of_same

theorem startPicture (p : StartPosition) (f : MediaFrame) (slot : SlotId) :
    (s.startPicture p f slot).ReportPlaces := by
  have filled : (s.fillSlot f slot).ReportPlaces := (ok.discardPartial f.channel).of_same
  by_cases running : (s.channel f.channel).state = .running
  · cases p with
    | first => rw [startPicture_first running]; exact filled.modChannel _ _
    | only => rw [startPicture_only running]; exact filled.acceptPicture _ _ _ _
  · rw [startPicture_of_not_running running]; exact ok.of_same

theorem startPictureFailed (f : MediaFrame) (slot : SlotId) :
    (s.startPictureFailed f slot).ReportPlaces := by
  have counted : ((s.releaseSlot slot).countFrame FrameCounters.countPayload).ReportPlaces :=
    ok.of_same
  rw [startPictureFailed_eq]
  dsimp only
  split
  · exact (counted.discardPartial _).modChannel _ _
  · exact counted

theorem continuePicture (p : ContinuationPosition) (f : MediaFrame) :
    (s.continuePicture p f).ReportPlaces := by
  unfold State.continuePicture
  dsimp only
  split
  · next part _ _ =>
    have appended : ReportPlaces { s with pool := s.pool.append part.slot f.payload.bytes } :=
      ok.of_same
    split
    · exact ok.discardPartial _
    · split
      · exact ok.discardPartial _
      · cases p with
        | middle => exact appended.modChannel _ _
        | last => exact (appended.modChannel _ _).acceptPicture _ _ _ _
  · exact ok.countFrame _

theorem continuationFailed (f : MediaFrame) : (s.continuationFailed f).ReportPlaces := by
  rw [continuationFailed_eq]
  dsimp only
  split
  · exact (ok.countFrame _).discardPartial _
  · exact ok.countFrame _

theorem startSmall (k : SmallKind) (p : Position) (f : MediaFrame) :
    (s.startSmall k p f).ReportPlaces := by
  unfold State.startSmall State.acceptSmall
  dsimp only
  split
  · split
    · exact ok.of_same
    · exact ok.of_same
  · exact ok.countFrame _

theorem smallFailed (p : Position) (f : MediaFrame) : (s.smallFailed p f).ReportPlaces := by
  rw [smallFailed_eq]
  dsimp only
  split
  · exact (ok.countFrame _).modChannel _ _
  · exact ok.countFrame _

/-! #### Decodes and jobs -/

theorem takePicture (pic : DecodedPicture) : (s.takePicture pic).ReportPlaces := by
  rw [State.takePicture_eq]
  have marked : (s.markPicture pic).ReportPlaces :=
    (ok.modChannel pic.channel _).evaluateMarkers pic.marked
  generalize s.markPicture pic = m at marked ⊢
  exact marked.of_same

theorem handOver (e : DecodeEngineId) (pic : DecodedPicture) : (s.handOver e pic).ReportPlaces := by
  unfold State.handOver
  split
  · exact ok.of_same
  · split
    · have taken := ok.takePicture pic
      generalize s.takePicture pic = t at taken ⊢
      exact taken.of_same
    · unfold State.holdPicture
      cases pic.source <;> exact ok.of_same

theorem finishDecode (e : DecodeEngineId) (d : DecodeEntry) (good : Bool) :
    (s.finishDecode e d good).ReportPlaces := by
  have concealed : (s.conceal d).ReportPlaces := ok.of_same
  unfold State.finishDecode
  dsimp only
  split
  · exact ok.handOver _ _
  · exact concealed.handOver _ _

theorem abandonDecode (e : DecodeEngineId) (d : DecodeEntry) :
    (s.abandonDecode e d).ReportPlaces := ok.of_same

theorem completeJob (e : EncodeEngineId) (i : Nat) (j : Job) (record : DispatchRecord)
    (r : CompletionReport) : (s.completeJob e i j record r).ReportPlaces := ok.of_same

theorem abandonJob (e : EncodeEngineId) (i : Nat) (j : Job) (record : DispatchRecord)
    (r : CompletionReport) : (s.abandonJob e i j record r).ReportPlaces := ok.of_same

end State.ReportPlaces

/-! ### The commands that are not directives -/

section Commands
variable {s : State} (ok : s.ReportPlaces)
include ok

theorem execPictureStartFrame_places (p : StartPosition) (f : MediaFrame) :
    Reaches State.ReportPlaces (execPictureStartFrame p f s) := by
  have ok := ok.beginReturn
  refine .ite (.next ok) (.ite (.next ok.headerFailure) ?_)
  split
  · exact .next (ok.countFrame _)
  · next slot rest _ =>
    have spent : (s.beginReturn.spendReserved rest).ReportPlaces := ok.of_same
    exact .ite (.next (spent.startPicture p f slot)) (.next (spent.startPictureFailed f slot))

theorem execPictureContinuationFrame_places (p : ContinuationPosition) (f : MediaFrame) :
    Reaches State.ReportPlaces (execPictureContinuationFrame p f s) :=
  have ok := ok.beginReturn
  .ite (.next ok) (.ite (.next ok.headerFailure)
    (.ite (.next (ok.continuePicture p f)) (.next (ok.continuationFailed f))))

theorem execSmallUnitFrame_places (k : SmallKind) (p : Position) (f : MediaFrame) :
    Reaches State.ReportPlaces (execSmallUnitFrame k p f s) :=
  have ok := ok.beginReturn
  have spent : s.beginReturn.spendSmall.ReportPlaces := ok.of_same
  .ite (.next ok) (.ite (.next ok.headerFailure) (.ite (.next (ok.countFrame _))
    (.ite (.next (spent.startSmall k p f)) (.next (spent.smallFailed p f)))))

theorem execUnitKindNoneFrame_places (p : Position) (f : MediaFrame) :
    Reaches State.ReportPlaces (execUnitKindNoneFrame p f s) :=
  have ok := ok.beginReturn
  .ite (.next ok) (.ite (.next ok.headerFailure)
    (.ite (.next (ok.countFrame _)) (.next (ok.countFrame _))))

theorem execHeaderCheckFailure_places (header : List Byte) :
    Reaches State.ReportPlaces (execHeaderCheckFailure header s) :=
  .ite (.next ok.beginReturn.headerFailure) (.next ok.beginReturn)

theorem execIngestLinkUp_places : Reaches State.ReportPlaces (execIngestLinkUp s) :=
  .ite (.next ok.beginReturn) (.next ok.beginReturn.of_same)

/-- R147: the credits of the directives already received stay held, and the others are void. -/
theorem execIngestLinkDown_places (inHand : Nat) :
    Reaches State.ReportPlaces (execIngestLinkDown inHand s) := by
  have ok := ok.beginReturn
  unfold execIngestLinkDown
  dsimp only
  rw [State.ingestLoss_eq]
  refine .ite (.next ok) (.next (ok.of_le (Nat.add_le_add_left ?_ _)))
  have kept := Nat.min_le_right inHand s.beginReturn.ingest.directiveUnspent
  show 0 + (s.beginReturn.ingest.inHand + _) ≤
    s.beginReturn.ingest.directiveUnspent + s.beginReturn.ingest.inHand
  omega

theorem execPictureCreditGrant_places : Reaches State.ReportPlaces (execPictureCreditGrant s) :=
  .ite (.next ok) (.next ok.of_same)

theorem execSmallCreditGrant_places : Reaches State.ReportPlaces (execSmallCreditGrant s) :=
  .ite (.next ok) (.next ok.of_same)

/-- R140: no more credits are granted than places are free. -/
theorem execDirectiveCreditGrant_places :
    Reaches State.ReportPlaces (execDirectiveCreditGrant s) := by
  refine .ite (.next ok) (.next ?_)
  have granted : s.directiveGrant ≤ 32 - s.reportCount := by
    unfold State.directiveGrant
    split
    · exact le_rfl
    · exact Nat.zero_le _
  rw [State.reportPlaces_iff] at ok ⊢
  have count : s.reportCount =
    s.reports.queue.length + (s.ingest.directiveUnspent + s.ingest.inHand) := rfl
  show s.reports.queue.length +
    (s.ingest.directiveUnspent + s.directiveGrant + s.ingest.inHand) ≤ 32
  omega

theorem execCreditFrameSent_places : Reaches State.ReportPlaces (execCreditFrameSent s) :=
  .ite (.next ok.beginReturn.of_same) (.next ok.beginReturn)

theorem execReportFrameSent_places : Reaches State.ReportPlaces (execReportFrameSent s) := by
  unfold execReportFrameSent
  dsimp only
  split
  · exact .next (ok.beginReturn.of_le
      (Nat.add_le_add_right (List.length_tail ▸ Nat.sub_le _ _) _))
  · exact .next ok.beginReturn.of_same
  · exact .next ok.beginReturn

theorem execEgressCredit_places (f : RawFrame) :
    Reaches State.ReportPlaces (execEgressCredit f s) :=
  .ite (.next ok.beginReturn.of_same) (.next ok.beginReturn)

theorem execEgressLinkUp_places : Reaches State.ReportPlaces (execEgressLinkUp s) :=
  .next ok.beginReturn.of_same

theorem execEgressLinkDown_places : Reaches State.ReportPlaces (execEgressLinkDown s) :=
  .ite (.next ok.beginReturn) (.next (.startStall ok.beginReturn.of_same))

theorem execEgressRead_places (o : ReadOutcome) :
    Reaches State.ReportPlaces (execEgressRead o s) := by
  unfold execEgressRead
  dsimp only
  split
  · exact .next (.startStall (ok.beginReturn.reportRead o _).of_same)
  · exact .next ok.beginReturn

theorem execEgressFrameBegin_places : Reaches State.ReportPlaces (execEgressFrameBegin s) := by
  unfold execEgressFrameBegin
  dsimp only
  split
  · exact .ite (.next ok.beginReturn.of_same) (.next ok.beginReturn)
  · exact .next ok.beginReturn

theorem execEgressFrameSent_places : Reaches State.ReportPlaces (execEgressFrameSent s) := by
  unfold execEgressFrameSent
  dsimp only
  split
  · exact .next (.startStall ok.beginReturn.of_same)
  · exact .ite (.next (.startStall (.settleHold ok.beginReturn.of_same)))
      (.next (.startStall ok.beginReturn.of_same))
  · exact .next ok.beginReturn

theorem execStallTimerExpiry_places : Reaches State.ReportPlaces (execStallTimerExpiry s) :=
  .ite (.next (.raise ok.beginReturn.of_same _)) (.next ok.beginReturn)

theorem execDecodeDispatch_places : Reaches State.ReportPlaces (execDecodeDispatch s) := by
  unfold execDecodeDispatch
  dsimp only
  split
  · exact .next ok.beginReturn.of_same
  · exact .next ok.beginReturn

theorem execDecodeCompletion_places (e : DecodeEngineId) (o : ReadOutcome) (decodable : Bool) :
    Reaches State.ReportPlaces (execDecodeCompletion e o decodable s) := by
  unfold execDecodeCompletion
  dsimp only
  split
  · next d _ _ =>
    have drawn (good : Bool) :
        ((s.beginReturn.reportRead o d.faultRecord).drawDecoded d good).ReportPlaces :=
      (ok.beginReturn.reportRead o d.faultRecord).of_eq
    exact .ite (.next ((drawn _).finishDecode e d _).settleHold)
      (.next ((drawn _).abandonDecode e d).settleHold)
  · exact .next ok.beginReturn

theorem execTakeHeldPicture_places : Reaches State.ReportPlaces (execTakeHeldPicture s) := by
  unfold execTakeHeldPicture
  dsimp only
  split
  · exact .next ok.beginReturn
  · split
    · next pic _ =>
      have taken := ok.beginReturn.takePicture pic
      generalize s.beginReturn.takePicture pic = t at taken ⊢
      exact .ite (.next taken.of_same) (.next ok.beginReturn)
    · exact .next ok.beginReturn

theorem execEngineDispatch_places : Reaches State.ReportPlaces (execEngineDispatch s) := by
  have ok := ok.beginReturn
  unfold execEngineDispatch
  dsimp only
  split
  · split
    · exact .next ok
    · split
      · refine .ite (.next ok) ?_
        split
        · exact .fault _
        · exact .next ok.of_same
      · exact .next ok
  · exact .next ok

theorem execSkipCompletion_places (ch : ChannelId) (r : Fin 4) :
    Reaches State.ReportPlaces (execSkipCompletion ch r s) := by
  have ok := ok.beginReturn
  unfold execSkipCompletion
  dsimp only
  split
  · split
    · exact .ite (.next ok.of_same) (.next ok)
    · exact .next ok
  · exact .next ok

theorem execEncodeCompletion_places (e : EncodeEngineId) (r : CompletionReport) :
    Reaches State.ReportPlaces (execEncodeCompletion e r s) := by
  have ok := ok.beginReturn
  unfold execEncodeCompletion
  dsimp only
  split
  · exact .ite (.ite (.next (ok.completeJob _ _ _ _ _).settleHold)
      (.next (ok.abandonJob _ _ _ _ _).settleHold)) (.next ok)
  · exact .next ok

theorem execEncodeEngineRead_places (e : EncodeEngineId) (r : EngineRead) (o : ReadOutcome) :
    Reaches State.ReportPlaces (execEncodeEngineRead e r o s) := by
  have ok := ok.beginReturn
  unfold execEncodeEngineRead
  dsimp only
  split
  · split
    · exact .next ok
    · exact .next (ok.reportRead o _).of_same
  · exact .next ok

theorem execSegmentRecord_places (ch : ChannelId) :
    Reaches State.ReportPlaces (execSegmentRecord ch s) := by
  unfold execSegmentRecord
  dsimp only
  split
  · exact .next ok.beginReturn
  · exact .ite (.next ok.beginReturn) (.next ok.beginReturn.of_same)

theorem execFinalSegmentClose_places (ch : ChannelId) :
    Reaches State.ReportPlaces (execFinalSegmentClose ch s) := by
  unfold execFinalSegmentClose
  dsimp only
  split
  · exact .next ok.beginReturn
  · exact .ite (.next (ok.beginReturn.modChannel _ _)) (.next ok.beginReturn)

theorem execDrainCompletion_places (ch : ChannelId) :
    Reaches State.ReportPlaces (execDrainCompletion ch s) :=
  .ite (.next (.raise ok.beginReturn.of_same _)) (.next ok.beginReturn)

theorem execAbortCompletion_places (ch : ChannelId) :
    Reaches State.ReportPlaces (execAbortCompletion ch s) :=
  .next ((ok.beginReturn.of_eq (State.finishAbort_reports _ ch)
    (State.finishAbort_ingest _ ch)).raiseAll _)

theorem execProcessAudioUnit_places : Reaches State.ReportPlaces (execProcessAudioUnit s) := by
  have ok := ok.beginReturn
  unfold execProcessAudioUnit
  dsimp only
  split
  · next u _ _ =>
    split
    · exact .next ok
    · have evaluated := ok.evaluateMarkers (s.beginReturn.smallMarked u 0)
      generalize s.beginReturn.evaluateMarkers (s.beginReturn.smallMarked u 0) = t at evaluated ⊢
      exact .ite (.ite (.next ok) (.next evaluated.of_same)) (.next evaluated.of_same)
  · exact .next ok

theorem execProcessCueUnit_places : Reaches State.ReportPlaces (execProcessCueUnit s) := by
  have ok := ok.beginReturn
  unfold execProcessCueUnit
  dsimp only
  split
  · next u _ _ =>
    split
    · exact .next ok
    · have evaluated := ok.evaluateMarkers
        (s.beginReturn.smallMarked u (BitVec.ofNat 32 (beNat u.payload)))
      generalize s.beginReturn.evaluateMarkers _ = t at evaluated ⊢
      exact .ite (.next evaluated.of_same) (.next ok.of_same)
  · exact .next ok

theorem execIdleTimerExpiry_places : Reaches State.ReportPlaces (execIdleTimerExpiry s) :=
  .ite (.next (.raise ok.beginReturn.of_eq _)) (.next ok.beginReturn)

end Commands

/-! ### Directives -/

/-- R162: RESTART leaves the credits of the directives in hand, and no other credit. -/
theorem IngestPort.restart_held (p : IngestPort) :
    p.restart.directiveUnspent = 0 ∧ p.restart.inHand = p.inHand := by
  unfold IngestPort.restart
  dsimp only
  split <;> exact ⟨rfl, rfl⟩

theorem State.ReportPlaces.restart {s : State} (ok : s.ReportPlaces) : s.restart.ReportPlaces := by
  obtain ⟨unspent, inHand⟩ := s.ingest.restart_held
  refine ok.of_le ?_
  show 0 + (s.ingest.restart.directiveUnspent + s.ingest.restart.inHand) ≤
    s.reports.queue.length + (s.ingest.directiveUnspent + s.ingest.inHand)
  omega

section Directives
variable {s : State} (ok : s.ReportPlaces)
include ok

/-- R137, R140 and R144: a directive frame's credit is spent and released, or spent and held in hand
by the frame that is admitted. -/
theorem State.admitDirective_places (f : DirectiveFrame) :
    (∃ t, s.admitDirective f = .ended t ∧ t.ReportPlaces)
      ∨ ∃ t, s.admitDirective f = .admitted t ∧ t.ReportPlaces ∧ 0 < t.ingest.inHand := by
  unfold State.admitDirective
  split
  · next held => exact .inr ⟨s, rfl, ok, held⟩
  · split
    · exact .inl ⟨s, rfl, ok⟩
    · split
      · exact .inl ⟨_, rfl, ok.headerFailure⟩
      · split
        · exact .inl ⟨_, rfl, ok.countFrame _⟩
        · next credit =>
          have moved : s.ingest.directiveUnspent - 1 + (s.ingest.inHand + 1) =
              s.ingest.directiveUnspent + s.ingest.inHand := by omega
          dsimp only
          split
          · exact .inr ⟨_, rfl, ok.of_le (Nat.add_le_add_left moved.le _),
              Nat.succ_pos _⟩
          · refine .inl ⟨_, rfl, ok.of_le (Nat.add_le_add_left ?_ _)⟩
            exact Nat.add_le_add_right (Nat.sub_le _ _) _

/-- R148: a directive's reply and the events it makes due. -/
theorem State.ReportPlaces.replied (held : 0 < s.ingest.inHand) (tag : BitVec 16) (code : Byte)
    (a : Answer) :
    ((s.reply tag code a.result a.data).raiseAll a.events).ReportPlaces :=
  (ok.reply held tag code a.result a.data).raiseAll a.events

theorem Replies.places {out : State × Answer} (replies : Replies s out)
    (held : 0 < s.ingest.inHand) (tag : BitVec 16) (code : Byte) :
    ((out.1.reply tag code out.2.result out.2.data).raiseAll out.2.events).ReportPlaces :=
  (ok.of_eq replies.reports replies.ingest).replied (replies.ingest ▸ held) tag code out.2

theorem runDirective_places {act : List Byte → State → State × Answer}
    (rule : act = takeRestart ∨ ∀ b s, Replies s (act b s)) (code : Byte) (n : Nat)
    (f : DirectiveFrame) : Reaches State.ReportPlaces (runDirective code n act f s) := by
  unfold runDirective
  obtain ⟨t, ended, ok⟩ | ⟨t, admitted, ok, held⟩ := State.admitDirective_places ok.beginReturn f
  · rw [ended]; exact .next ok
  · rw [admitted]
    obtain ⟨out, taken, answer⟩ := t.takeDirective_cases code n act f
    refine .next (taken ▸ ?_)
    rcases answer with rfl | rfl
    · exact (Replies.refusal _).places ok held f.tag code
    · rcases rule with rfl | rule
      · exact ok.restart.replied (t.ingest.restart_held.2.symm ▸ held) f.tag code (Answer.of .done)
      · exact (rule _ _).places ok held f.tag code

theorem execUnknownDirective_places (code : Byte) (f : DirectiveFrame) :
    Reaches State.ReportPlaces (execUnknownDirective code f s) := by
  refine .ite (.next ok) ?_
  obtain ⟨t, ended, ok⟩ | ⟨t, admitted, ok, held⟩ := State.admitDirective_places ok.beginReturn f
  · rw [ended]; exact .next ok
  · rw [admitted]; exact .next (ok.reply held _ _ _ _)

theorem exec_directive_places {i : Instr} {code : Byte} {f : DirectiveFrame}
    (directive : directiveOf i = some (code, f)) : Reaches State.ReportPlaces (exec i s) := by
  by_cases unknown : ∃ c g, i = .unknownDirective c g
  · obtain ⟨c, g, rfl⟩ := unknown
    exact execUnknownDirective_places ok c g
  · obtain ⟨act, run, rule⟩ := exec_directive_of_named directive fun c g h => unknown ⟨c, g, h⟩
    rw [run]
    exact runDirective_places ok (rule.imp_left And.right) _ _ f

end Directives

/-! ### The statement (section 11.3) -/

/-- Every command keeps the places. -/
theorem exec_places {s : State} (ok : s.ReportPlaces) (c : Instr) :
    Reaches State.ReportPlaces (exec c s) := by
  cases c with
  | pictureStartFrame p f => exact execPictureStartFrame_places ok p f
  | pictureContinuationFrame p f => exact execPictureContinuationFrame_places ok p f
  | smallUnitFrame k p f => exact execSmallUnitFrame_places ok k p f
  | headerCheckFailure header => exact execHeaderCheckFailure_places ok header
  | ingestLinkUp => exact execIngestLinkUp_places ok
  | ingestLinkDown n => exact execIngestLinkDown_places ok n
  | pictureCreditGrant => exact execPictureCreditGrant_places ok
  | smallCreditGrant => exact execSmallCreditGrant_places ok
  | directiveCreditGrant => exact execDirectiveCreditGrant_places ok
  | creditFrameSent => exact execCreditFrameSent_places ok
  | reportFrameSent => exact execReportFrameSent_places ok
  | egressCredit f => exact execEgressCredit_places ok f
  | egressLinkUp => exact execEgressLinkUp_places ok
  | egressLinkDown => exact execEgressLinkDown_places ok
  | egressRead o => exact execEgressRead_places ok o
  | egressFrameBegin => exact execEgressFrameBegin_places ok
  | egressFrameSent => exact execEgressFrameSent_places ok
  | stallTimerExpiry => exact execStallTimerExpiry_places ok
  | decodeDispatch => exact execDecodeDispatch_places ok
  | decodeCompletion e o d => exact execDecodeCompletion_places ok e o d
  | takeHeldPicture => exact execTakeHeldPicture_places ok
  | engineDispatch => exact execEngineDispatch_places ok
  | skipCompletion ch r => exact execSkipCompletion_places ok ch r
  | encodeCompletion e r => exact execEncodeCompletion_places ok e r
  | segmentRecord ch => exact execSegmentRecord_places ok ch
  | finalSegmentClose ch => exact execFinalSegmentClose_places ok ch
  | drainCompletion ch => exact execDrainCompletion_places ok ch
  | abortCompletion ch => exact execAbortCompletion_places ok ch
  | processCueUnit => exact execProcessCueUnit_places ok
  | processAudioUnit => exact execProcessAudioUnit_places ok
  | idleTimerExpiry => exact execIdleTimerExpiry_places ok
  | powerOnReset => exact .next (Nat.zero_le 32)
  | encodeEngineRead e r o => exact execEncodeEngineRead_places ok e r o
  | unitKindNoneFrame p f => exact execUnitKindNoneFrame_places ok p f
  | _ => exact exec_directive_places ok rfl

/-- Settles O4: a step is a command on the rest of the queue, which takes up no place. -/
theorem reportPlacesKept : Obligations.ReportPlacesKept := by
  intro s t ok h
  unfold step at h
  split at h
  · cases h; exact ok
  · next c rest _ =>
    have waiting : State.ReportPlaces { s with pending := rest } := ok.of_same
    exact exec_places waiting c t h

end Sys2Proof.Machine

/-! SUPPORT. Hold control and the two timers (R130, R157, R159, R160): what each operation does to
their invariant, then the commands one by one. -/

namespace Sys2Proof.Machine

-- One after another: elaborated side by side, these many case splits exceed the memory limit.
set_option Elab.async false

/-! ### The engines at rest (R159, R160) -/

/-- R159: no encode engine is busy and no decode engine is DECODING. -/
def State.AtRest (s : State) : Prop :=
  (∀ e : EncodeEngineId, s.encode[e].isBusy = false)
    ∧ ∀ e : DecodeEngineId, s.decode.engines[e].isDecoding = false

/-- R159: the idle condition of a hold. -/
theorem State.idleReached_iff (s : State) :
    s.idleReached = true ↔
      s.AtRest ∧ (s.hold.egressEmpty = true → s.egress.queue = []) := by
  simp only [idleReached, Bool.and_eq_true, Vector.all_toList, Vector.all_eq_true,
    Bool.not_eq_true', Bool.or_eq_true, List.isEmpty_iff, AtRest, Fin.forall_iff, Fin.getElem_fin]
  rw [← Bool.not_eq_true, ← imp_iff_not_or]

/-- R111: ABORT sets no decode engine to work. -/
theorem DecodeEngine.isDecoding_afterAbort {x : DecodeEngine} (resting : x.isDecoding = false)
    (ch : ChannelId) : (x.afterAbort ch).isDecoding = false := by
  cases x with
  | idle => rfl
  | decoding d a => exact nomatch resting
  | holding pic => exact (apply_ite DecodeEngine.isDecoding ..).trans (ite_self false)

namespace State.AtRest
variable {s : State} (rest : s.AtRest)
include rest

theorem setEncodeIdle (e : EncodeEngineId) :
    AtRest { s with encode := s.encode.set e .idle } := by
  obtain ⟨encode, decode⟩ := rest
  refine ⟨fun g => ?_, decode⟩
  rw [Fin.getElem_fin, Vector.getElem_set]
  split
  · rfl
  · exact encode g

theorem setDecodeEngine (e : DecodeEngineId) {x : DecodeEngine} (resting : x.isDecoding = false) :
    (s.setDecodeEngine e x).AtRest := by
  obtain ⟨encode, decode⟩ := rest
  refine ⟨encode, fun g => ?_⟩
  show (s.decode.engines.set e x)[g].isDecoding = false
  rw [Fin.getElem_fin, Vector.getElem_set]
  split
  · exact resting
  · exact decode g

theorem abortWork (ch : ChannelId) : (s.abortWork ch).AtRest := by
  obtain ⟨encode, decode⟩ := rest
  rw [abortWork_eq]
  refine ⟨encode, fun e => ?_⟩
  show (Vector.ofFn fun e => s.decode.engines[e].afterAbort ch)[e].isDecoding = false
  rw [Fin.getElem_fin, Vector.getElem_ofFn]
  exact DecodeEngine.isDecoding_afterAbort (decode e) ch

end State.AtRest

/-! ### The invariant (R130, R157, R159, R160) -/

theorem State.holdOk_iff (s : State) :
    s.HoldOk ↔ (s.hold.part = .holdPending ↔ s.hold.idleTimer.isSome = true)
      ∧ (s.hold.part = .held → s.AtRest ∧ s.egress.stallTimer = none)
      ∧ (s.egress.stalled = true → s.egress.stallTimer = none) := by
  simp only [HoldOk, AtRest, and_assoc]

namespace State.HoldOk
variable {s t : State} (ok : s.HoldOk)
include ok

/-- An update of the engines that leaves hold control and the stall timer. -/
theorem of_engines (rest : s.hold.part = .held → s.AtRest → t.AtRest)
    (hold : t.hold = s.hold := by rfl)
    (timer : t.egress.stallTimer = s.egress.stallTimer := by rfl)
    (stalled : t.egress.stalled = s.egress.stalled := by rfl) : t.HoldOk := by
  obtain ⟨idleTimer, held, stall⟩ := s.holdOk_iff.1 ok
  rw [holdOk_iff, hold, timer, stalled]
  exact ⟨idleTimer, fun h => ⟨rest h (held h).1, (held h).2⟩, stall⟩

/-- R160: in RUNNING an engine may be set to work. -/
theorem of_running (running : s.hold.part = .running) (hold : t.hold = s.hold := by rfl)
    (timer : t.egress.stallTimer = s.egress.stallTimer := by rfl)
    (stalled : t.egress.stalled = s.egress.stalled := by rfl) : t.HoldOk :=
  ok.of_engines (fun held => nomatch running.symm.trans held) hold timer stalled

/-- An update that leaves hold control, the engines and the stall timer. -/
theorem of_same (hold : t.hold = s.hold := by rfl) (encode : t.encode = s.encode := by rfl)
    (engines : t.decode.engines = s.decode.engines := by rfl)
    (timer : t.egress.stallTimer = s.egress.stallTimer := by rfl)
    (stalled : t.egress.stalled = s.egress.stalled := by rfl) : t.HoldOk :=
  ok.of_engines (fun _ rest => by rwa [AtRest, encode, engines]) hold timer stalled

/-- An update that leaves hold control, the engines and the egress port. -/
theorem of_eq (hold : t.hold = s.hold := by simp) (encode : t.encode = s.encode := by simp)
    (decode : t.decode = s.decode := by simp) (egress : t.egress = s.egress := by simp) :
    t.HoldOk :=
  ok.of_same hold encode (congrArg _ decode) (congrArg _ egress) (congrArg _ egress)

/-! #### The part state and the two timers -/

/-- R130: the stall timer starts neither in HELD nor while stalled. -/
theorem startStall : s.startStall.HoldOk := by
  obtain ⟨idleTimer, held, stall⟩ := s.holdOk_iff.1 ok
  unfold State.startStall
  split
  · next starts =>
    obtain ⟨-, waits⟩ := Bool.and_eq_true_iff.1 starts
    obtain ⟨-, -, notHeld, notStalled, -⟩ := s.stallWaits_iff.1 waits
    exact (holdOk_iff _).2 ⟨idleTimer, fun h => absurd h notHeld,
      fun h => nomatch notStalled.symm.trans h⟩
  · exact ok

/-- R159: idle, a pending hold enters HELD. -/
theorem decideHold : s.decideHold.1.HoldOk := by
  rcases s.decideHold_spec with same | ⟨-, idle, held⟩
  · rw [same]; exact ok
  · rw [held]
    obtain ⟨rest, -⟩ := s.idleReached_iff.1 idle
    exact (holdOk_iff _).2 ⟨iff_of_false nofun nofun, fun _ => ⟨rest, rfl⟩, fun _ => rfl⟩

theorem raise (e : Event) : (s.raise e).HoldOk := ok.of_eq

theorem raiseAll (es : List Event) : (s.raiseAll es).HoldOk := ok.of_eq

theorem settleHold : s.settleHold.HoldOk := ok.decideHold.raiseAll _

/-- R158: a hold left pending runs its timer. -/
theorem pend (wait : Nat) (egressEmpty : Bool) : HoldOk { s with
    hold := { part := .holdPending, idleTimer := some wait, egressEmpty := egressEmpty } } := by
  obtain ⟨-, -, stall⟩ := s.holdOk_iff.1 ok
  exact (holdOk_iff _).2 ⟨iff_of_true rfl rfl, nofun, stall⟩

theorem resume : s.resume.HoldOk := by
  obtain ⟨-, -, stall⟩ := s.holdOk_iff.1 ok
  have running : HoldOk { s with hold := { s.hold with part := .running, idleTimer := none } } :=
    (holdOk_iff _).2 ⟨iff_of_false nofun nofun, nofun, stall⟩
  exact running.startStall

/-- R129: a credit stops the stall timer. -/
theorem stopStall (stalled : Bool) (credits : Nat) : HoldOk { s with egress := { s.egress with
    credits := credits, stallTimer := none, stalled := stalled } } := by
  obtain ⟨idleTimer, held, -⟩ := s.holdOk_iff.1 ok
  exact (holdOk_iff _).2 ⟨idleTimer, fun h => ⟨(held h).1, rfl⟩, fun _ => rfl⟩

/-- R128: an entry's leaving does not start the stall timer. -/
theorem finishHead (e : EgressEntry) : HoldOk { s with egress := s.egress.finishHead e } :=
  ok.of_same

/-! #### The shared operations -/

theorem beginReturn : s.beginReturn.HoldOk := ok.of_eq

theorem modChannel (ch : ChannelId) (f : Channel → Channel) : (s.modChannel ch f).HoldOk :=
  ok.of_same

theorem countFrame (f : FrameCounters → FrameCounters) : (s.countFrame f).HoldOk := ok.of_same

theorem discardPartial (ch : ChannelId) : (s.discardPartial ch).HoldOk := ok.of_eq

theorem reportRead (o : ReadOutcome) (r : FaultRecord) : (s.reportRead o r).HoldOk := ok.of_eq

theorem evaluateMarkers (u : MarkedUnit) : (s.evaluateMarkers u).HoldOk := ok.of_eq

theorem takePicture (pic : DecodedPicture) : (s.takePicture pic).HoldOk := ok.of_eq

theorem headerFailure : s.headerFailure.HoldOk := by
  rw [State.headerFailure_eq]; exact ok.of_same

/-! #### Media frames -/

theorem acceptPicture (ch : ChannelId) (slot : SlotId) (time : Nat) (flags : BitVec 16) :
    (s.acceptPicture ch slot time flags).HoldOk := by
  unfold State.acceptPicture
  dsimp only
  split <;> exact ok.of_same

theorem startPicture (p : StartPosition) (f : MediaFrame) (slot : SlotId) :
    (s.startPicture p f slot).HoldOk := by
  have filled : (s.fillSlot f slot).HoldOk := (ok.discardPartial f.channel).of_same
  by_cases running : (s.channel f.channel).state = .running
  · cases p with
    | first => rw [startPicture_first running]; exact filled.modChannel _ _
    | only => rw [startPicture_only running]; exact filled.acceptPicture _ _ _ _
  · rw [startPicture_of_not_running running]; exact ok.of_same

theorem startPictureFailed (f : MediaFrame) (slot : SlotId) :
    (s.startPictureFailed f slot).HoldOk := by
  rw [startPictureFailed_eq]
  dsimp only
  split
  · exact (discardPartial (s := (s.releaseSlot slot).countFrame _) ok.of_same _).modChannel _ _
  · exact ok.of_same

theorem continuePicture (p : ContinuationPosition) (f : MediaFrame) :
    (s.continuePicture p f).HoldOk := by
  unfold State.continuePicture
  dsimp only
  split
  · split
    · exact ok.discardPartial _
    · split
      · exact ok.discardPartial _
      · cases p with
        | middle => exact ok.of_same
        | last => exact acceptPicture ok.of_same _ _ _ _
  · exact ok.countFrame _

theorem continuationFailed (f : MediaFrame) : (s.continuationFailed f).HoldOk := by
  rw [continuationFailed_eq]
  dsimp only
  split
  · exact (ok.countFrame _).discardPartial _
  · exact ok.countFrame _

theorem startSmall (k : SmallKind) (p : Position) (f : MediaFrame) :
    (s.startSmall k p f).HoldOk := by
  unfold State.startSmall State.acceptSmall
  dsimp only
  split
  · split <;> exact ok.of_same
  · exact ok.countFrame _

theorem smallFailed (p : Position) (f : MediaFrame) : (s.smallFailed p f).HoldOk := by
  rw [smallFailed_eq]
  dsimp only
  split <;> exact ok.of_same

/-! #### The engines -/

theorem setDecodeEngine (e : DecodeEngineId) {x : DecodeEngine} (resting : x.isDecoding = false) :
    (s.setDecodeEngine e x).HoldOk :=
  ok.of_engines fun _ rest => rest.setDecodeEngine e resting

theorem handOver (e : DecodeEngineId) (pic : DecodedPicture) : (s.handOver e pic).HoldOk := by
  have leaves {u : State} (ok : u.HoldOk) :
      ((u.clearDecode pic.channel).setDecodeEngine e .idle).HoldOk :=
    setDecodeEngine (s := u.clearDecode pic.channel) ok.of_same e rfl
  unfold State.handOver
  split
  · exact leaves ok.of_same
  · split
    · exact leaves (ok.takePicture pic)
    · have held : (s.setDecodeEngine e (.holding pic)).HoldOk := ok.setDecodeEngine e rfl
      unfold State.holdPicture
      cases pic.source <;> exact held.of_same

theorem finishDecode (e : DecodeEngineId) (d : DecodeEntry) (good : Bool) :
    (s.finishDecode e d good).HoldOk := by
  have concealed : (s.conceal d).HoldOk := ok.of_same
  unfold State.finishDecode
  dsimp only
  split
  · exact ok.handOver _ _
  · exact concealed.handOver _ _

theorem completeJob (e : EncodeEngineId) (i : Nat) (j : Job) (record : DispatchRecord)
    (r : CompletionReport) : (s.completeJob e i j record r).HoldOk :=
  ok.of_engines fun _ rest => rest.setEncodeIdle e

theorem abandonJob (e : EncodeEngineId) (i : Nat) (j : Job) (record : DispatchRecord)
    (r : CompletionReport) : (s.abandonJob e i j record r).HoldOk :=
  ok.of_engines fun _ rest => rest.setEncodeIdle e

theorem finishAbort (ch : ChannelId) : (s.finishAbort ch).1.HoldOk := by
  unfold State.finishAbort
  split
  · exact ok.of_same
  · exact ok

theorem abortWork (ch : ChannelId) : (s.abortWork ch).HoldOk :=
  ok.of_engines (fun _ rest => rest.abortWork ch) (by rw [abortWork_eq]; rfl)
    (by rw [abortWork_eq]; rfl) (by rw [abortWork_eq]; rfl)

end State.HoldOk

/-! ### The commands that are not directives -/

section Commands
variable {s : State} (ok : s.HoldOk)
include ok

theorem execPictureStartFrame_holdOk (p : StartPosition) (f : MediaFrame) :
    Reaches State.HoldOk (execPictureStartFrame p f s) := by
  have ok := ok.beginReturn
  refine .ite (.next ok) (.ite (.next ok.headerFailure) ?_)
  split
  · exact .next (ok.countFrame _)
  · next slot rest _ =>
    have spent : (s.beginReturn.spendReserved rest).HoldOk := ok.of_same
    exact .ite (.next (spent.startPicture p f slot)) (.next (spent.startPictureFailed f slot))

theorem execPictureContinuationFrame_holdOk (p : ContinuationPosition) (f : MediaFrame) :
    Reaches State.HoldOk (execPictureContinuationFrame p f s) :=
  have ok := ok.beginReturn
  .ite (.next ok) (.ite (.next ok.headerFailure)
    (.ite (.next (ok.continuePicture p f)) (.next (ok.continuationFailed f))))

theorem execSmallUnitFrame_holdOk (k : SmallKind) (p : Position) (f : MediaFrame) :
    Reaches State.HoldOk (execSmallUnitFrame k p f s) :=
  have ok := ok.beginReturn
  have spent : s.beginReturn.spendSmall.HoldOk := ok.of_same
  .ite (.next ok) (.ite (.next ok.headerFailure) (.ite (.next (ok.countFrame _))
    (.ite (.next (spent.startSmall k p f)) (.next (spent.smallFailed p f)))))

theorem execUnitKindNoneFrame_holdOk (p : Position) (f : MediaFrame) :
    Reaches State.HoldOk (execUnitKindNoneFrame p f s) :=
  have ok := ok.beginReturn
  .ite (.next ok) (.ite (.next ok.headerFailure)
    (.ite (.next (ok.countFrame _)) (.next (ok.countFrame _))))

theorem execHeaderCheckFailure_holdOk (header : List Byte) :
    Reaches State.HoldOk (execHeaderCheckFailure header s) :=
  .ite (.next ok.beginReturn.headerFailure) (.next ok.beginReturn)

theorem execIngestLinkUp_holdOk : Reaches State.HoldOk (execIngestLinkUp s) :=
  .ite (.next ok.beginReturn) (.next ok.beginReturn.of_same)

theorem execIngestLinkDown_holdOk (inHand : Nat) :
    Reaches State.HoldOk (execIngestLinkDown inHand s) := by
  unfold execIngestLinkDown
  dsimp only
  rw [State.ingestLoss_eq]
  exact .ite (.next ok.beginReturn) (.next ok.beginReturn.of_same)

theorem execPictureCreditGrant_holdOk : Reaches State.HoldOk (execPictureCreditGrant s) :=
  .ite (.next ok) (.next ok.of_same)

theorem execSmallCreditGrant_holdOk : Reaches State.HoldOk (execSmallCreditGrant s) :=
  .ite (.next ok) (.next ok.of_same)

theorem execDirectiveCreditGrant_holdOk : Reaches State.HoldOk (execDirectiveCreditGrant s) :=
  .ite (.next ok) (.next ok.of_same)

theorem execCreditFrameSent_holdOk : Reaches State.HoldOk (execCreditFrameSent s) :=
  .ite (.next ok.beginReturn.of_same) (.next ok.beginReturn)

theorem execReportFrameSent_holdOk : Reaches State.HoldOk (execReportFrameSent s) := by
  unfold execReportFrameSent
  dsimp only
  split
  · exact .next ok.beginReturn.of_same
  · exact .next ok.beginReturn.of_same
  · exact .next ok.beginReturn

theorem execEgressCredit_holdOk (f : RawFrame) : Reaches State.HoldOk (execEgressCredit f s) :=
  .ite (.next (ok.beginReturn.stopStall false _)) (.next ok.beginReturn)

theorem execEgressLinkUp_holdOk : Reaches State.HoldOk (execEgressLinkUp s) :=
  .next ok.beginReturn.of_same

theorem execEgressLinkDown_holdOk : Reaches State.HoldOk (execEgressLinkDown s) :=
  .ite (.next ok.beginReturn) (.next (.startStall ok.beginReturn.of_same))

theorem execEgressRead_holdOk (o : ReadOutcome) : Reaches State.HoldOk (execEgressRead o s) := by
  unfold execEgressRead
  dsimp only
  split
  · exact .next (.startStall (ok.beginReturn.reportRead o _).of_same)
  · exact .next ok.beginReturn

theorem execEgressFrameBegin_holdOk : Reaches State.HoldOk (execEgressFrameBegin s) := by
  unfold execEgressFrameBegin
  dsimp only
  split
  · exact .ite (.next ok.beginReturn.of_same) (.next ok.beginReturn)
  · exact .next ok.beginReturn

/-- R128 and R159: under EGRESS_EMPTY the leaving of the last entry may decide the hold; in HELD the
stall timer then stays stopped. -/
theorem execEgressFrameSent_holdOk : Reaches State.HoldOk (execEgressFrameSent s) := by
  unfold execEgressFrameSent
  dsimp only
  split
  · exact .next (.startStall ok.beginReturn.of_same)
  · exact .ite (.next (ok.beginReturn.finishHead _).settleHold.startStall)
      (.next (.startStall ok.beginReturn.of_same))
  · exact .next ok.beginReturn

theorem execStallTimerExpiry_holdOk : Reaches State.HoldOk (execStallTimerExpiry s) :=
  .ite (.next (.raise (ok.beginReturn.stopStall true _) _)) (.next ok.beginReturn)

/-- R107 and R160: a decode starts in RUNNING alone. -/
theorem execDecodeDispatch_holdOk : Reaches State.HoldOk (execDecodeDispatch s) := by
  unfold execDecodeDispatch
  dsimp only
  split
  · next running _ _ => exact .next (ok.beginReturn.of_running running)
  · exact .next ok.beginReturn

theorem execDecodeCompletion_holdOk (e : DecodeEngineId) (o : ReadOutcome) (decodable : Bool) :
    Reaches State.HoldOk (execDecodeCompletion e o decodable s) := by
  unfold execDecodeCompletion
  dsimp only
  split
  · next d _ _ =>
    have drawn (good : Bool) :
        ((s.beginReturn.reportRead o d.faultRecord).drawDecoded d good).HoldOk := ok.of_eq
    exact .ite (.next ((drawn _).finishDecode e d _).settleHold)
      (.next (.settleHold (.setDecodeEngine (s := State.clearDecode _ _) (drawn _).of_same e rfl)))
  · exact .next ok.beginReturn

theorem execTakeHeldPicture_holdOk : Reaches State.HoldOk (execTakeHeldPicture s) := by
  unfold execTakeHeldPicture
  dsimp only
  split
  · exact .next ok.beginReturn
  · next e _ _ =>
    split
    · next pic _ =>
      have taken := (ok.beginReturn.takePicture pic).setDecodeEngine e (x := .idle) rfl
      generalize s.beginReturn.takePicture pic = t at taken ⊢
      exact .ite (.next taken.of_same) (.next ok.beginReturn)
    · exact .next ok.beginReturn

/-- R77 and R160: a job starts in RUNNING alone. -/
theorem execEngineDispatch_holdOk : Reaches State.HoldOk (execEngineDispatch s) := by
  have ok := ok.beginReturn
  unfold execEngineDispatch
  dsimp only
  split
  · next running _ _ =>
    split
    · exact .next ok
    · split
      · refine .ite (.next ok) ?_
        split
        · exact .fault _
        · exact .next (ok.of_running running)
      · exact .next ok
  · exact .next ok

theorem execSkipCompletion_holdOk (ch : ChannelId) (r : Fin 4) :
    Reaches State.HoldOk (execSkipCompletion ch r s) := by
  unfold execSkipCompletion
  dsimp only
  split
  · split
    · exact .ite (.next ok.beginReturn.of_same) (.next ok.beginReturn)
    · exact .next ok.beginReturn
  · exact .next ok.beginReturn

theorem execEncodeCompletion_holdOk (e : EncodeEngineId) (r : CompletionReport) :
    Reaches State.HoldOk (execEncodeCompletion e r s) := by
  have ok := ok.beginReturn
  unfold execEncodeCompletion
  dsimp only
  split
  · exact .ite (.ite (.next (ok.completeJob _ _ _ _ _).settleHold)
      (.next (ok.abandonJob _ _ _ _ _).settleHold)) (.next ok)
  · exact .next ok

/-- R160: the engine of a read is busy, so the part is not HELD. -/
theorem execEncodeEngineRead_holdOk (e : EncodeEngineId) (r : EngineRead) (o : ReadOutcome) :
    Reaches State.HoldOk (execEncodeEngineRead e r o s) := by
  have ok := ok.beginReturn
  unfold execEncodeEngineRead
  dsimp only
  split
  · next busy _ =>
    split
    · exact .next ok
    · refine .next ((ok.reportRead o _).of_engines fun _ rest => ?_)
      have resting := rest.1 e
      rw [State.reportRead_encode, busy] at resting
      exact nomatch resting
  · exact .next ok

theorem execSegmentRecord_holdOk (ch : ChannelId) :
    Reaches State.HoldOk (execSegmentRecord ch s) := by
  unfold execSegmentRecord
  dsimp only
  split
  · exact .next ok.beginReturn
  · exact .ite (.next ok.beginReturn) (.next ok.beginReturn.of_same)

theorem execFinalSegmentClose_holdOk (ch : ChannelId) :
    Reaches State.HoldOk (execFinalSegmentClose ch s) := by
  unfold execFinalSegmentClose
  dsimp only
  split
  · exact .next ok.beginReturn
  · exact .ite (.next ok.beginReturn.of_same) (.next ok.beginReturn)

theorem execDrainCompletion_holdOk (ch : ChannelId) :
    Reaches State.HoldOk (execDrainCompletion ch s) :=
  .ite (.next (.raise ok.beginReturn.of_same _)) (.next ok.beginReturn)

theorem execAbortCompletion_holdOk (ch : ChannelId) :
    Reaches State.HoldOk (execAbortCompletion ch s) :=
  .next ((ok.beginReturn.finishAbort ch).raiseAll _)

theorem execProcessAudioUnit_holdOk : Reaches State.HoldOk (execProcessAudioUnit s) := by
  have ok := ok.beginReturn
  unfold execProcessAudioUnit
  dsimp only
  split
  · next u _ _ =>
    split
    · exact .next ok
    · have evaluated := ok.evaluateMarkers (s.beginReturn.smallMarked u 0)
      generalize s.beginReturn.evaluateMarkers (s.beginReturn.smallMarked u 0) = t at evaluated ⊢
      exact .ite (.ite (.next ok) (.next evaluated.of_same)) (.next evaluated.of_same)
  · exact .next ok

theorem execProcessCueUnit_holdOk : Reaches State.HoldOk (execProcessCueUnit s) := by
  have ok := ok.beginReturn
  unfold execProcessCueUnit
  dsimp only
  split
  · next u _ _ =>
    split
    · exact .next ok
    · have evaluated := ok.evaluateMarkers
        (s.beginReturn.smallMarked u (BitVec.ofNat 32 (beNat u.payload)))
      generalize s.beginReturn.evaluateMarkers _ = t at evaluated ⊢
      exact .ite (.next evaluated.of_same) (.next ok.of_same)
  · exact .next ok

theorem execIdleTimerExpiry_holdOk : Reaches State.HoldOk (execIdleTimerExpiry s) :=
  .ite (.next (ok.beginReturn.resume.raise _)) (.next ok.beginReturn)

end Commands

/-! ### Directives -/

section Directives
variable {s : State} (ok : s.HoldOk) (b : List Byte)
include ok

/-- R156: a new timeout may start the stall timer. -/
theorem takeSetLink_holdOk : (takeSetLink b s).1.HoldOk := by
  unfold takeSetLink
  dsimp only
  split
  · exact ok
  · exact .startStall ok.of_same

theorem takeLoadProfile_holdOk : (takeLoadProfile b s).1.HoldOk := by
  rcases takeLoadProfile_cases b s with same | ⟨p, -, -, stored⟩
  · rw [same]; exact ok
  · rw [stored]; exact ok.of_same

theorem takeReadProfile_holdOk : (takeReadProfile b s).1.HoldOk := by
  unfold takeReadProfile; split <;> exact ok

theorem takeLoadWindow_holdOk : (takeLoadWindow b s).1.HoldOk := by
  unfold takeLoadWindow
  split
  · exact ok
  · split
    · exact ok
    · exact ok.of_same

theorem takeReadWindow_holdOk : (takeReadWindow b s).1.HoldOk := by
  unfold takeReadWindow; split <;> exact ok

theorem takeLoadMarker_holdOk : (takeLoadMarker b s).1.HoldOk := by
  unfold takeLoadMarker
  split
  · exact ok
  · split
    · exact ok
    · exact ok.of_same

theorem takeReadMarker_holdOk : (takeReadMarker b s).1.HoldOk := by
  unfold takeReadMarker; split <;> exact ok

theorem takeOpen_holdOk : (takeOpen b s).1.HoldOk := by
  unfold takeOpen
  split
  · exact ok
  · exact ok
  · split
    · exact ok
    · dsimp only
      split
      · exact ok
      · split
        · exact ok
        · split
          · exact ok
          · exact ok.of_same

theorem takeClose_holdOk : (takeClose b s).1.HoldOk := by
  unfold takeClose
  split
  · exact ok
  · split
    · exact ok
    · exact ok
    · exact ok
    · exact (ok.modChannel _ _).discardPartial _

theorem takeAbort_holdOk : (takeAbort b s).1.HoldOk := by
  unfold takeAbort
  split
  · exact ok
  · next ch _ =>
    split
    · exact ok
    · exact ok
    · exact (ok.abortWork ch).finishAbort ch
    · exact (ok.abortWork ch).finishAbort ch

theorem takeQueryChannel_holdOk : (takeQueryChannel b s).1.HoldOk := by
  unfold takeQueryChannel; split <;> exact ok

/-- R158: the hold is pending with its timer running, or decided at once. -/
theorem State.HoldOk.enterHold (wait : Nat) (egressEmpty : Bool) :
    (s.enterHold wait egressEmpty).1.HoldOk := by
  have pending := ok.pend wait egressEmpty
  unfold State.enterHold
  dsimp only
  split
  · exact pending.decideHold
  · split
    · exact pending.resume
    · exact pending

theorem takeHold_holdOk : (takeHold b s).1.HoldOk := by
  unfold takeHold
  split
  · exact ok
  · split
    · exact ok
    · split
      · exact ok
      · exact ok.enterHold _ _

theorem takeRelease_holdOk : (takeRelease b s).1.HoldOk := by
  unfold takeRelease
  split
  · exact ok
  · exact ok.resume
  · exact ok.resume

end Directives

/-- R162 and R163: RUNNING with no timer. -/
theorem State.holdOk_of_cleared {s : State} (part : s.hold.part = .running)
    (idleTimer : s.hold.idleTimer = none) (stallTimer : s.egress.stallTimer = none) :
    s.HoldOk := by
  rw [holdOk_iff, part, idleTimer, stallTimer]
  exact ⟨iff_of_false nofun nofun, nofun, fun _ => rfl⟩

/-- R135 to R137 and R144: what follows a directive frame's admission, for a property that a header
check failure has and that no rewrite of the ingest port alone takes away. -/
theorem Reaches.of_admission {P : State → Prop} {s : State} (f : DirectiveFrame)
    {g : State → State} (failed : P s.beginReturn.headerFailure)
    (ended : ∀ i : IngestPort, P { s.beginReturn with ingest := i })
    (admitted : ∀ i : IngestPort, P (g { s.beginReturn with ingest := i })) :
    Reaches P (match s.beginReturn.admitDirective f with
      | .ended t => .next t
      | .admitted t => .next (g t)) := by
  rcases s.beginReturn.admitDirective_cases f with h | ⟨i, -, h | h⟩
  · rw [h]; exact .next failed
  · rw [h]; exact .next (ended i)
  · rw [h]; exact .next (admitted i)

section Admission
variable {s : State} (ok : s.HoldOk)
include ok

/-- A directive frame's command keeps the invariant when the directive's own rule does. -/
theorem runDirective_holdOk {act : List Byte → State → State × Answer}
    (h : ∀ {u : State}, u.HoldOk → ∀ b, (act b u).1.HoldOk) (code : Byte) (n : Nat)
    (f : DirectiveFrame) : Reaches State.HoldOk (runDirective code n act f s) := by
  have port (i : IngestPort) : State.HoldOk { s.beginReturn with ingest := i } :=
    ok.beginReturn.of_same
  refine .of_admission f (g := fun u => u.takeDirective code n act f)
    ok.beginReturn.headerFailure port fun i => ?_
  obtain ⟨out, taken, rfl | rfl⟩ := State.takeDirective_cases _ code n act f
  · rw [taken]; exact .raiseAll (port i).of_same _
  · rw [taken]; exact .raiseAll (h (port i) f.payload.bytes).of_same _

theorem execUnknownDirective_holdOk (code : Byte) (f : DirectiveFrame) :
    Reaches State.HoldOk (execUnknownDirective code f s) :=
  .ite (.next ok) (.of_admission f ok.beginReturn.headerFailure
    (fun _ => ok.beginReturn.of_same) fun _ => ok.beginReturn.of_same)

/-! ### The statement (sections 9.4, 12.1 and 12.3) -/

/-- Every command keeps the invariant. -/
theorem exec_holdOk (c : Instr) : Reaches State.HoldOk (exec c s) := by
  cases c with
  | setLink f => exact runDirective_holdOk ok takeSetLink_holdOk _ _ f
  | queryPart f => exact runDirective_holdOk ok (fun ok _ => ok) _ _ f
  | loadProfile f => exact runDirective_holdOk ok takeLoadProfile_holdOk _ _ f
  | readProfile f => exact runDirective_holdOk ok takeReadProfile_holdOk _ _ f
  | loadWindow f => exact runDirective_holdOk ok takeLoadWindow_holdOk _ _ f
  | readWindow f => exact runDirective_holdOk ok takeReadWindow_holdOk _ _ f
  | loadMarker f => exact runDirective_holdOk ok takeLoadMarker_holdOk _ _ f
  | readMarker f => exact runDirective_holdOk ok takeReadMarker_holdOk _ _ f
  | clearMatch f => exact runDirective_holdOk ok (fun ok _ => ok.of_same) _ _ f
  | openChannel f => exact runDirective_holdOk ok takeOpen_holdOk _ _ f
  | closeChannel f => exact runDirective_holdOk ok takeClose_holdOk _ _ f
  | abortChannel f => exact runDirective_holdOk ok takeAbort_holdOk _ _ f
  | queryChannel f => exact runDirective_holdOk ok takeQueryChannel_holdOk _ _ f
  | readFaultLog f => exact runDirective_holdOk ok (fun ok _ => ok) _ _ f
  | clearFaultLog f => exact runDirective_holdOk ok (fun ok _ => ok.of_same) _ _ f
  | hold f => exact runDirective_holdOk ok takeHold_holdOk _ _ f
  | release f => exact runDirective_holdOk ok takeRelease_holdOk _ _ f
  | restart f =>
    exact runDirective_holdOk ok (fun _ _ => State.holdOk_of_cleared rfl rfl rfl) _ _ f
  | unknownDirective code f => exact execUnknownDirective_holdOk ok code f
  | pictureStartFrame p f => exact execPictureStartFrame_holdOk ok p f
  | pictureContinuationFrame p f => exact execPictureContinuationFrame_holdOk ok p f
  | smallUnitFrame k p f => exact execSmallUnitFrame_holdOk ok k p f
  | headerCheckFailure header => exact execHeaderCheckFailure_holdOk ok header
  | ingestLinkUp => exact execIngestLinkUp_holdOk ok
  | ingestLinkDown n => exact execIngestLinkDown_holdOk ok n
  | pictureCreditGrant => exact execPictureCreditGrant_holdOk ok
  | smallCreditGrant => exact execSmallCreditGrant_holdOk ok
  | directiveCreditGrant => exact execDirectiveCreditGrant_holdOk ok
  | creditFrameSent => exact execCreditFrameSent_holdOk ok
  | reportFrameSent => exact execReportFrameSent_holdOk ok
  | egressCredit f => exact execEgressCredit_holdOk ok f
  | egressLinkUp => exact execEgressLinkUp_holdOk ok
  | egressLinkDown => exact execEgressLinkDown_holdOk ok
  | egressRead o => exact execEgressRead_holdOk ok o
  | egressFrameBegin => exact execEgressFrameBegin_holdOk ok
  | egressFrameSent => exact execEgressFrameSent_holdOk ok
  | stallTimerExpiry => exact execStallTimerExpiry_holdOk ok
  | decodeDispatch => exact execDecodeDispatch_holdOk ok
  | decodeCompletion e o d => exact execDecodeCompletion_holdOk ok e o d
  | takeHeldPicture => exact execTakeHeldPicture_holdOk ok
  | engineDispatch => exact execEngineDispatch_holdOk ok
  | skipCompletion ch r => exact execSkipCompletion_holdOk ok ch r
  | encodeCompletion e r => exact execEncodeCompletion_holdOk ok e r
  | segmentRecord ch => exact execSegmentRecord_holdOk ok ch
  | finalSegmentClose ch => exact execFinalSegmentClose_holdOk ok ch
  | drainCompletion ch => exact execDrainCompletion_holdOk ok ch
  | abortCompletion ch => exact execAbortCompletion_holdOk ok ch
  | processCueUnit => exact execProcessCueUnit_holdOk ok
  | processAudioUnit => exact execProcessAudioUnit_holdOk ok
  | idleTimerExpiry => exact execIdleTimerExpiry_holdOk ok
  | powerOnReset => exact .next (State.holdOk_of_cleared rfl rfl rfl)
  | encodeEngineRead e r o => exact execEncodeEngineRead_holdOk ok e r o
  | unitKindNoneFrame p f => exact execUnitKindNoneFrame_holdOk ok p f

end Admission

/-- Settles O9: a step is a command on the rest of the queue, which plays no part in hold control. -/
theorem holdStateKept : Obligations.HoldStateKept := by
  intro s t ok h
  unfold step at h
  split at h
  · cases h; exact ok
  · next c rest _ =>
    have waiting : State.HoldOk { s with pending := rest } := ok.of_same
    exact exec_holdOk waiting c t h

end Sys2Proof.Machine

/-! SUPPORT. HOLD, RELEASE, RESTART and power-on reset (chapter 12): the outcomes of each, then the
statements. -/

namespace Sys2Proof.Machine

/-! ### HOLD's checks (R158) -/

/-- R158: the order of the field checks: the wait, the EGRESS_EMPTY field, the REJECT field. -/
theorem holdBad_eq {b : List Byte} (hl : b.length = 4) :
    holdBad b =
      if beNat (field b 0 2) ≤ 10000 then
        if (byteAt b 2).toNat ≤ 1 then
          if (byteAt b 3).toNat ≤ 1 then none else some 3
        else some 2
      else some 1 := by
  simp only [holdBad, firstBad_cons, Machine.inRange_iff, isFlag_iff, Config.maxIdleWait,
    Nat.zero_le, true_and, bodyNat_byte b 2 (by omega), bodyNat_byte b 3 (by omega)]
  rfl

/-- R158: some channel is finishing. -/
theorem State.channelClosing_iff (s : State) :
    s.channelClosing = true ↔
      ∃ ch, (s.channel ch).state = .draining ∨ (s.channel ch).state = .aborting := by
  simp only [channelClosing, Vector.any_toList, Vector.any_eq_true, Bool.or_eq_true, beq_iff_eq,
    Fin.exists_iff]
  rfl

section Hold
variable {b : List Byte} {s : State}

theorem takeHold_of_badField {n : Nat} (bad : holdBad b = some n) :
    takeHold b s = (s, Answer.of (.badField n)) := by
  rw [takeHold, bad]

variable (good : holdBad b = none)
include good

theorem takeHold_of_not_running (h : s.hold.part ≠ .running) :
    takeHold b s = (s, Answer.of .state) := by
  simp only [takeHold, good, bne_iff_ne.2 h, if_true]

variable (running : s.hold.part = .running)
include running

/-- R158: a hold that a finishing channel rejects is answered DONE all the same. -/
theorem takeHold_of_closing (reject : bodyNat b 3 1 = 1) (closing : s.channelClosing = true) :
    takeHold b s = (s, { result := .done, data := .none,
                         events := [.holdResult (.rejected .channelClosing)] }) := by
  simp only [takeHold, good, running, reject, closing]
  rfl

theorem takeHold_of_free (free : ¬ (bodyNat b 3 1 = 1 ∧ s.channelClosing = true)) {t : State}
    {events : List Event}
    (enters : s.enterHold (bodyNat b 0 2) (bodyNat b 2 1 == 1) = (t, events)) :
    takeHold b s = (t, { result := .done, data := .none, events := events }) := by
  have passes : ¬ (bodyNat b 3 1 == 1 && s.channelClosing) = true := by
    rwa [Bool.and_eq_true, beq_iff_eq]
  simp only [takeHold, good, running, if_neg passes, enters]
  rfl

end Hold

/-! ### A hold decided at once or left pending (R158, R159) -/

section EnterHold
variable {s : State} {wait : Nat} {egressEmpty : Bool}

/-- R159: the idle condition is tested with the EGRESS_EMPTY flag of the new hold. -/
theorem State.enterHold_of_idle (rest : s.AtRest)
    (emptied : egressEmpty = true → s.egress.queue = []) :
    s.enterHold wait egressEmpty = ({ s with
      hold := { part := .held, idleTimer := none, egressEmpty := egressEmpty }
      egress := { s.egress with stallTimer := none } }, [.holdResult .accepted]) := by
  have reached : State.idleReached { s with
      hold := { part := .holdPending, idleTimer := some wait, egressEmpty := egressEmpty } } =
      true := (State.idleReached_iff _).2 ⟨rest, emptied⟩
  simp only [enterHold, decideHold, reached]
  rfl

variable (busy : ¬ (s.AtRest ∧ (egressEmpty = true → s.egress.queue = [])))
include busy

theorem State.enterHold_of_no_wait :
    s.enterHold 0 egressEmpty = (State.startStall { s with
      hold := { part := .running, idleTimer := none, egressEmpty := egressEmpty } },
      [.holdResult (.rejected .timeout)]) :=
  if_neg (mt (State.idleReached_iff _).1 busy)

theorem State.enterHold_of_wait (long : 0 < wait) :
    s.enterHold wait egressEmpty = ({ s with
      hold := { part := .holdPending, idleTimer := some wait, egressEmpty := egressEmpty } }, []) :=
  (if_neg (mt (State.idleReached_iff _).1 busy)).trans (if_neg long.ne')

end EnterHold

/-- Settles O44: each outcome of `takeHold` on the part as the directive unit finds it. -/
theorem holdTaken : Obligations.HoldTaken := by
  intro f s hands len b wait empty reject closing idle
  have emptyByte : bodyNat b 2 1 = empty := bodyNat_byte b 2 (len ▸ by decide)
  have rejectByte : bodyNat b 3 1 = reject := bodyNat_byte b 3 (len ▸ by decide)
  have checked : holdBad b = _ := holdBad_eq len
  have closes : s.taking.channelClosing = true ↔ closing := by
    rw [State.channelClosing_iff]; simp only [State.taking_channel]; rfl
  have rests : (s.taking.AtRest ∧ ((empty == 1) = true → s.taking.egress.queue = [])) ↔ idle := by
    rw [State.AtRest, s.taking_encode, s.taking_decode, s.taking_egress, beq_iff_eq, and_assoc]
  have refused {n : Nat} (bad : holdBad b = some n) :
      exec (.hold f) s = .next (s.answered f 0x10 (.badField n) .none) :=
    runDirective_of_refusal hands len codeHold (takeHold_of_badField bad)
  refine ⟨fun long => refused ?_, fun wOk two => refused ?_, fun wOk eOk two => refused ?_,
    fun wOk eOk rOk => ?_⟩
  · rw [checked, if_neg long.not_ge]
  · rw [checked, if_pos wOk, if_neg (Nat.not_le.2 two)]
  · rw [checked, if_pos wOk, if_pos eOk, if_neg (Nat.not_le.2 two)]
  · have good : holdBad b = none := by rw [checked, if_pos wOk, if_pos eOk, if_pos rOk]
    have part := congrArg HoldControl.part s.taking_hold
    refine ⟨fun h => ?_, fun running one closed => ?_, fun running free => ?_⟩
    · exact runDirective_of_refusal hands len codeHold
        (takeHold_of_not_running good (part.trans_ne h))
    · exact runDirective_of_answer hands len codeHold
        (takeHold_of_closing good (part.trans running) (rejectByte.trans one) (closes.2 closed))
    · have passes : ¬ (bodyNat b 3 1 = 1 ∧ s.taking.channelClosing = true) := by
        rw [rejectByte, closes]
        rcases free with zero | none
        · exact fun ⟨one, _⟩ => nomatch zero.symm.trans one
        · exact fun ⟨_, closed⟩ => none closed
      have entered {t : State} {events : List Event}
          (enters : s.taking.enterHold wait (empty == 1) = (t, events)) :
          exec (.hold f) s = .next ((t.reply f.tag 0x10 .done .none).raiseAll events) :=
        runDirective_of_answer hands len codeHold
          (takeHold_of_free good (part.trans running) passes (emptyByte ▸ enters))
      refine ⟨fun h => ?_, fun h none => ?_, fun h long => ?_⟩
      · obtain ⟨rest, emptied⟩ := rests.2 h
        rw [entered (State.enterHold_of_idle rest emptied), s.taking_egress]
        rfl
      · exact entered (none ▸ State.enterHold_of_no_wait (mt rests.1 h))
      · exact entered (State.enterHold_of_wait (mt rests.1 h) long)

/-! ### How a pending hold ends (R159, R161) -/

/-- R159: what decides a pending hold. -/
theorem State.decideHold_iff (s : State) :
    (s.hold.part == .holdPending && s.idleReached) = true ↔
      s.hold.part = .holdPending ∧ (s.AtRest
        ∧ (s.hold.egressEmpty = true → s.egress.queue = [])) := by
  rw [Bool.and_eq_true, beq_iff_eq, s.idleReached_iff]

theorem State.settleHold_of_idle {s : State} (pending : s.hold.part = .holdPending)
    (rest : s.AtRest) (emptied : s.hold.egressEmpty = true → s.egress.queue = []) :
    s.settleHold = s.enterHeld.raise (.holdResult .accepted) := by
  rw [settleHold, decideHold, if_pos (s.decideHold_iff.2 ⟨pending, rest, emptied⟩)]
  rfl

theorem State.settleHold_of_not_idle {s : State}
    (h : ¬ (s.hold.part = .holdPending ∧ (s.AtRest
      ∧ (s.hold.egressEmpty = true → s.egress.queue = [])))) : s.settleHold = s := by
  rw [settleHold, decideHold, if_neg (mt s.decideHold_iff.1 h)]
  rfl

/-- R157: the part returns to RUNNING from a state whose hold control is known. -/
theorem State.resume_of_hold {s u : State} (same : u.hold = s.hold) :
    u.resume =
      State.startStall { u with hold := { s.hold with part := .running, idleTimer := none } } := by
  rw [resume, same]

theorem exec_idleTimerExpiry_of_pending {s : State} (pending : s.hold.part = .holdPending)
    (runs : s.hold.idleTimer.isSome = true) :
    exec .idleTimerExpiry s =
      .next (s.beginReturn.resume.raise (.holdResult (.rejected .timeout))) :=
  if_pos (by rw [s.beginReturn_hold, pending, runs]; rfl)

section Release
variable {s : State} (b : List Byte)

theorem takeRelease_of_running (h : s.hold.part = .running) :
    takeRelease b s = (s, Answer.of .state) := by
  simp only [takeRelease, h]

theorem takeRelease_of_pending (h : s.hold.part = .holdPending) :
    takeRelease b s = (s.resume, { result := .done, data := .none,
                                   events := [.holdResult (.rejected .released)] }) := by
  simp only [takeRelease, h]

theorem takeRelease_of_held (h : s.hold.part = .held) :
    takeRelease b s = (s.resume, Answer.of .done) := by
  simp only [takeRelease, h]

end Release

/-- Settles O45. -/
theorem holdEnds : Obligations.HoldEnds := by
  refine fun s => ⟨?_, fun pending runs => ?_, fun f hands len => ?_⟩
  · split
    · next idle =>
      obtain ⟨pending, encode, decode, emptied⟩ := idle
      exact State.settleHold_of_idle pending ⟨encode, decode⟩ emptied
    · next busy =>
      exact State.settleHold_of_not_idle fun ⟨pending, ⟨encode, decode⟩, emptied⟩ =>
        busy ⟨pending, encode, decode, emptied⟩
  · rw [exec_idleTimerExpiry_of_pending pending runs, State.resume_of_hold s.beginReturn_hold]
  · have part := congrArg HoldControl.part s.taking_hold
    dsimp only
    rw [← State.resume_of_hold s.taking_hold]
    exact ⟨fun h => runDirective_of_refusal hands len codeRelease
        (takeRelease_of_running _ (part.trans h)),
      fun h => runDirective_of_answer hands len codeRelease
        (takeRelease_of_pending _ (part.trans h)),
      fun h => runDirective_of_answer hands len codeRelease
        (takeRelease_of_held _ (part.trans h))⟩

/-! ### What RESTART and power-on reset leave (R162, R163) -/

theorem SlotState.isWritten_iff (st : SlotState) :
    st.isWritten = true ↔ st = .decoding ∨ st = .recon := by
  cases st <;> simp [isWritten]

/-- R89: every slot FREE, its areas kept but for a write cut short. -/
theorem SlotPool.cleared_eq (p : SlotPool) (serial : Nat) :
    p.cleared serial = {
      slots := Vector.ofFn (fun i : SlotId => { p.slots[i] with
        state := .free
        picture := if p.slots[i].state = .decoding ∨ p.slots[i].state = .recon then
            .unfinished serial i
          else p.slots[i].picture })
      free := List.finRange 512
      reserved := [] } := by
  simp only [cleared, Slot.interrupted, SlotState.isWritten_iff]

/-- R133: a frame on the link goes to its end. -/
theorem EgressPort.restart_eq (p : EgressPort) :
    p.restart = { p with
      reservedBytes := 0, queuedBytes := 0, queue := [], head := .unread
      wire := if p.wire = .frame then .detached else p.wire
      stalled := false, stallTimer := none } := by
  unfold restart
  cases p.wire <;> rfl

/-- R147: the credits are void, and on an UP link a reset frame follows the frame being sent. -/
theorem IngestPort.restart_eq (p : IngestPort) :
    p.restart = { p with
      smallOutstanding := 0, directiveUnspent := 0
      counters := { stray := 0, uncredited := 0, payloadFailures := 0, headerFailures := 0 }
      creditQueue := if p.link = .up then
          (if p.wire = .credit then p.creditQueue.take 1 else []) ++ [.reset]
        else []
      wire := if p.wire = .report then .detached else p.wire } := by
  unfold restart
  cases p.wire <;> cases p.link <;> rfl

/-- R151: a report being sent counts as sent. -/
theorem State.discardedReports_eq (s : State) :
    s.discardedReports =
      if s.ingest.wire = .report then s.reports.queue.tail else s.reports.queue := by
  simp only [discardedReports, beq_iff_eq]

/-- Settles O46: `State.restart` block by block, on the part as the directive unit finds it. -/
theorem restartAndPowerOnReset : Obligations.RestartAndPowerOnReset := by
  refine ⟨fun f s hands len => ?_, fun s => ?_⟩
  · have restarted : exec (.restart f) s = .next (s.taking.restart.reply f.tag 0x12 .done .none) :=
      runDirective_of_answer (act := takeRestart) (a := .of .done) hands len codeRestart rfl
    obtain ⟨i, taken, link, -, credits, -⟩ := s.taking_spec
    rw [restarted, State.restart, SlotPool.cleared_eq, EgressPort.restart_eq,
      IngestPort.restart_eq, State.discardedReports_eq, taken]
    dsimp only
    rw [link, credits]
    rfl
  · have reset : exec .powerOnReset s = .next { State.reset with
        pool := s.pool.cleared s.freeSerial, freeSerial := s.freeSerial + 1
        pending := s.pending } := rfl
    rw [reset, SlotPool.cleared_eq]

end Sys2Proof.Machine

/-! SUPPORT. The reading back of a forward frame that is written for a command (R164 to R166), and the
part as a machine: its step and its state after reset. -/

namespace Sys2Proof.Decode

open Machine

/-! ### The header of a forward frame (R164) -/

/-- Of the payload the header shows the length alone. -/
theorem frameWith_header (first12 : List Byte) (p : Payload) :
    (frameWith first12 p).header = (frameOf first12 (zeros p.length.toNat)).header := by
  simp only [frameWith, frameOf, zeros, List.length_replicate]

theorem headerLengthOf_frameWith {first12 : List Byte} (h : first12.length = 12) (p : Payload) :
    headerLengthOf (frameWith first12 p).header = p.length.toNat := by
  obtain ⟨-, -, -, length, -⟩ := frameOf_spec h (zeros p.length.toNat)
  rw [zeros, List.length_replicate] at length
  rw [headerLengthOf, frameWith_header, zeros, length]
  exact Nat.mod_eq_of_lt p.length.isLt

theorem payloadPart_frameWith {first12 : List Byte} (h : first12.length = 12) (p : Payload) :
    payloadPart (frameWith first12 p) = p := by
  rw [payloadPart, headerLengthOf_frameWith h, BitVec.ofNat_toNat, BitVec.setWidth_eq]
  rfl

theorem byteAt_frameWith {first12 : List Byte} (h : first12.length = 12) (p : Payload) {i : Nat}
    (hi : i < 12) : byteAt (frameWith first12 p).header i = byteAt first12 i := by
  obtain ⟨-, bytes, -⟩ := frameOf_spec h (zeros p.length.toNat)
  rw [frameWith_header, bytes i hi]

theorem field_frameWith {first12 : List Byte} (h : first12.length = 12) (p : Payload) {i n : Nat}
    (hi : i + n ≤ 12) : field (frameWith first12 p).header i n = field first12 i n := by
  obtain ⟨-, -, fields, -⟩ := frameOf_spec h (zeros p.length.toNat)
  rw [frameWith_header, fields i n hi]

/-- R135: a header of either forward kind with a length in range passes. -/
theorem forwardHeaderFails_frameWith {first12 : List Byte} (h : first12.length = 12) {p : Payload}
    (lengthOk : p.lengthOk = true)
    (kind : byteAt first12 0 = mediaKind ∨ byteAt first12 0 = directiveKind) :
    forwardHeaderFails (frameWith first12 p).header = false := by
  have check : headerChecks (frameWith first12 p).header = true :=
    Laws.headerChecks_seal _ (by rw [List.length_append, h, length_beBytes])
  rw [forwardHeaderFails, check, byteAt_frameWith h p (by decide), headerLengthOf_frameWith h,
    ← Payload.lengthOk, lengthOk]
  rcases kind with kind | kind <;> rw [kind] <;> rfl

/-- A field written from a word of its width is read as that word. -/
theorem ofNat_beNat_beBytes (n : Nat) (x : BitVec (8 * n)) :
    BitVec.ofNat (8 * n) (beNat (beBytes n x.toNat)) = x := by
  rw [beNat_beBytes, show 256 = 2 ^ 8 from rfl, ← pow_mul, Nat.mod_eq_of_lt x.isLt,
    BitVec.ofNat_toNat, BitVec.setWidth_eq]

/-! ### Directive frames (R165, R166) -/

section Directive
variable (code : Byte) (d : DirectiveFrame)

/-- R165: the first 12 header bytes of a DIRECTIVE frame. -/
def directiveHeader : List Byte :=
  [directiveKind, 0] ++ beBytes 2 d.tag.toNat ++ [code] ++ zeros 7

theorem directiveRaw_eq : directiveRaw code d = frameWith (directiveHeader code d) d.payload := rfl

theorem length_directiveHeader : (directiveHeader code d).length = 12 := by
  simp [directiveHeader, length_beBytes, zeros]

theorem directivePart_directiveRaw : directivePart (directiveRaw code d) = d := by
  have length := length_directiveHeader code d
  have tag : field (directiveHeader code d) 2 2 = beBytes 2 d.tag.toNat := rfl
  rw [directivePart, directiveRaw_eq, payloadPart_frameWith length,
    field_frameWith length _ (by decide), tag, ofNat_beNat_beBytes 2]

variable {d} (lengthOk : d.payload.lengthOk = true)
include lengthOk

/-- R135: a directive frame with a length in range is read by its code. -/
theorem ofFrame_directiveRaw : ofFrame (directiveRaw code d) = directiveCommand code d := by
  have length := length_directiveHeader code d
  have kind : byteAt (directiveRaw code d).header 0 = directiveKind :=
    byteAt_frameWith length d.payload (by decide)
  have codeByte : byteAt (directiveRaw code d).header 4 = code :=
    byteAt_frameWith length d.payload (by decide)
  have passes : forwardHeaderFails (directiveRaw code d).header = false :=
    forwardHeaderFails_frameWith length lengthOk (.inr rfl)
  rw [ofFrame, passes, kind, codeByte, directivePart_directiveRaw]
  rfl

end Directive

/-- R149: a code outside R166's table names no directive. -/
theorem directiveCommand_of_unnamed {code : Byte} (unnamed : namesDirective code = false)
    (d : DirectiveFrame) : directiveCommand code d = .unknownDirective code d := by
  have other {c : Byte} (named : namesDirective c = true) : code ≠ c := by
    rintro rfl
    exact nomatch unnamed.symm.trans named
  unfold directiveCommand
  iterate 18 refine (if_neg (other (by decide))).trans ?_
  rfl

/-! ### Media frames (R164, R165) -/

section Media
variable (kind : Nat) (p : Position) (m : MediaFrame)

/-- R165: the first 12 header bytes of a MEDIA frame. -/
def mediaHeader : List Byte :=
  [mediaKind, byteOf m.channel.val, unitByte kind p, m.sequence] ++ zeros 2
    ++ beBytes 2 m.flags.toNat ++ beBytes 4 m.timestamp.toNat

theorem mediaRaw_eq : mediaRaw kind p m = frameWith (mediaHeader kind p m) m.payload := rfl

theorem length_mediaHeader : (mediaHeader kind p m).length = 12 := by
  simp [mediaHeader, length_beBytes, zeros]

theorem mediaPart_mediaRaw : mediaPart (mediaRaw kind p m) = m := by
  have length := length_mediaHeader kind p m
  have channelByte : byteAt (mediaHeader kind p m) 1 = byteOf m.channel.val := rfl
  have sequence : byteAt (mediaHeader kind p m) 3 = m.sequence := rfl
  have flags : field (mediaHeader kind p m) 6 2 = beBytes 2 m.flags.toNat := rfl
  have timestamp : field (mediaHeader kind p m) 8 4 = beBytes 4 m.timestamp.toNat := rfl
  have channel : Fin.ofNat 32 (byteOf m.channel.val).toNat = m.channel := by
    ext
    rw [toNat_byteOf, Fin.val_ofNat]
    omega
  rw [mediaPart, mediaRaw_eq, payloadPart_frameWith length,
    byteAt_frameWith length _ (by decide), byteAt_frameWith length _ (by decide),
    field_frameWith length _ (by decide), field_frameWith length _ (by decide), channelByte,
    sequence, flags, timestamp, channel, ofNat_beNat_beBytes 2, ofNat_beNat_beBytes 4]

end Media

/-- R165: the unit kind and the position in byte 2. -/
theorem unitByte_spec (p : Position) : ∀ kind : Fin 4,
    positionOf (unitByte kind p) = p
      ∧ (unitByte kind p).getLsbD 1 = decide (2 ≤ kind.val)
      ∧ (unitByte kind p).getLsbD 0 = decide (kind.val % 2 = 1) := by
  cases p <;> decide

/-- R165: the command that a media frame of a unit kind and a position is. -/
def mediaInstr (kind : Fin 4) (p : Position) (m : MediaFrame) : Instr :=
  match kind, p with
  | 0, .only => .pictureStartFrame .only m
  | 0, .first => .pictureStartFrame .first m
  | 0, .middle => .pictureContinuationFrame .middle m
  | 0, .last => .pictureContinuationFrame .last m
  | 1, _ => .smallUnitFrame .audio p m
  | 2, _ => .smallUnitFrame .cue p m
  | 3, _ => .unitKindNoneFrame p m


theorem mediaCommand_of_unitByte {f : RawFrame} {kind : Fin 4} {p : Position} {m : MediaFrame}
    (unit : byteAt f.header 2 = unitByte kind p) (part : mediaPart f = m) :
    mediaCommand f = mediaInstr kind p m := by
  obtain ⟨position, high, low⟩ := unitByte_spec p kind
  rw [mediaCommand, unit, part, position, high, low]
  match kind with
  | 0 => cases p <;> rfl
  | 1 | 2 | 3 => rfl

/-- R135: a media frame with a length in range is read by its unit kind and position. -/
theorem ofFrame_mediaRaw (kind : Fin 4) (p : Position) {m : MediaFrame}
    (lengthOk : m.payload.lengthOk = true) :
    ofFrame (mediaRaw kind p m) = mediaInstr kind p m := by
  have length := length_mediaHeader kind p m
  have frameKind : byteAt (mediaRaw kind p m).header 0 = mediaKind :=
    byteAt_frameWith length m.payload (by decide)
  have unit : byteAt (mediaRaw kind p m).header 2 = unitByte kind p :=
    byteAt_frameWith length m.payload (by decide)
  have passes : forwardHeaderFails (mediaRaw kind p m).header = false :=
    forwardHeaderFails_frameWith length lengthOk (.inl rfl)
  rw [ofFrame, passes, frameKind]
  exact mediaCommand_of_unitByte unit (mediaPart_mediaRaw _ p m)

end Sys2Proof.Decode

namespace Sys2Proof.Machine

/-- Settles O2: a directive frame is read by its code, a media frame by its unit kind and position. -/
theorem forwardFramesReadBack : Obligations.ForwardFramesReadBack := by
  intro i f wellFormed written
  cases i with
  | unknownDirective code d =>
    cases written
    obtain ⟨unnamed, lengthOk⟩ := Bool.and_eq_true_iff.1 wellFormed
    rw [Decode.ofFrame_directiveRaw code lengthOk]
    exact Decode.directiveCommand_of_unnamed (by simpa using unnamed) d
  | setLink d | queryPart d | loadProfile d | readProfile d | loadWindow d | readWindow d
  | loadMarker d | readMarker d | clearMatch d | openChannel d | closeChannel d | abortChannel d
  | queryChannel d | readFaultLog d | clearFaultLog d | hold d | release d | restart d =>
    cases written
    exact Decode.ofFrame_directiveRaw _ wellFormed
  | pictureStartFrame p m =>
    cases written
    cases p <;> exact Decode.ofFrame_mediaRaw 0 _ wellFormed
  | pictureContinuationFrame p m =>
    cases written
    cases p <;> exact Decode.ofFrame_mediaRaw 0 _ wellFormed
  | smallUnitFrame k p m =>
    cases written
    cases k with
    | audio => exact Decode.ofFrame_mediaRaw 1 p wellFormed
    | cue => exact Decode.ofFrame_mediaRaw 2 p wellFormed
  | unitKindNoneFrame p m =>
    cases written
    exact Decode.ofFrame_mediaRaw 3 p wellFormed
  | _ => exact nomatch written

/-! ### The state after reset (R163) -/

/-- R89: nothing is written at power-up, so a reset finds no write to cut short. -/
theorem SlotPool.cleared_powerUp (serial : Nat) : powerUp.cleared serial = powerUp := by
  simp [cleared_eq, powerUp]

/-- Settles O3: the reset state is a cleared one, of which each invariant is known. -/
theorem resetMeetsTheInvariants : Obligations.ResetMeetsTheInvariants := by
  have pool : State.reset.pool = State.reset.pool.cleared State.reset.freeSerial :=
    (SlotPool.cleared_powerUp 0).symm
  have counts (p : ProfileId) (valid : State.reset.profiles[p].valid = true) :
      State.reset.profiles[p].count ≤ 4 := by
    simp [State.reset, Profile.zero] at valid
  exact ⟨Nat.zero_le 32, State.egressTotals_of_empty rfl rfl rfl rfl,
    State.engineReserve_of_cleared pool rfl, State.queueBounds_of_cleared rfl rfl rfl rfl,
    State.holdOk_of_cleared rfl rfl rfl, State.tablesInRange_of_reset rfl rfl,
    State.fullnessOk_of_cleared rfl, (State.storeOk_of_cleared pool rfl rfl rfl counts).slotsOk⟩

/-- Settles O1: `step` is by cases on the queue. -/
theorem stepTakesTheFront : Obligations.StepTakesTheFront :=
  ⟨fun _ _ _ => rfl, fun s idle => by rw [step, idle]⟩

end Sys2Proof.Machine
